-- ==== Sys2Proof/Word.lean ====
section
/-! DEFINITION. The word types of the 6502: a byte of data and a 16-bit address (00_scope.md R5, R6). -/

namespace Sys2Proof

/-- Data: A, X, Y, SP and every memory location (10_state.md R20 to R23, 20_memory.md R50). -/
abbrev Byte := BitVec 8

/-- Addresses: PC and every effective address (10_state.md R24, 20_memory.md R50). -/
abbrev Addr := BitVec 16

end Sys2Proof
end

