-- ==== Sys2Proof/Config.lean ====
section
/-! DEFINITION. What the spec leaves to a platform (00_scope.md R5) and the free values: the constants of
`Config` have no body, so nothing can be proved about which value they give. -/

namespace Sys2Proof

/-- What stands at an address (20_memory.md R57). -/
inductive AddrKind
  | ram
  | rom
  | device
  | unmapped
  deriving DecidableEq, Repr

/-- One entry of the platform's memory map: the `size` addresses from `base` on are of kind `kind`. -/
structure Region where
  base : Nat
  size : Nat
  kind : AddrKind
  deriving DecidableEq, Repr

/-- The two readings of decimal ADC and SBC that the spec offers (92_eei_decisions.md D11): the NMOS
algorithm of R126 and R127, or the conservative one, which leaves every output open but A and C for
valid BCD operands. -/
inductive DecimalModel
  | nmos
  | conservative
  deriving DecidableEq, Repr

/-- The parameters that stay fixed while the machine runs: `MemMap` and `DecimalModel` (00_scope.md R5).
Assumption log 4 and 7. -/
structure Platform where
  memMap : List Region
  decimal : DecimalModel
  deriving DecidableEq, Repr

/-- The three outcomes of an NMI edge signalled at the boundary before a BRK (60_exceptions.md R306). -/
inductive BrkNmi
  /-- (a) the NMI is taken at once, before the BRK -/
  | nmiFirst
  /-- (b) the edge falls inside the BRK, and the NMI follows at the next boundary -/
  | brkThenNmi
  /-- (c) the edge captures the BRK: its frame goes through the NMI vector -/
  | captured
  deriving DecidableEq, Repr, Inhabited

namespace Config

/-- FREE VALUE: the arbitrary byte of draw `k` (93_implementation_defined.md U2, U5). Assumption log 6, 7. -/
opaque freeByte : Nat → Byte

/-- FREE VALUE: the arbitrary bit of draw `k` (93_implementation_defined.md U2). Assumption log 7. -/
opaque freeBit : Nat → Bool

/-- FREE VALUE: whether an admissible IRQ is taken at the boundary of choice `k` (60_exceptions.md R304).
Assumption log 9. -/
opaque irqTaken : Nat → Bool

/-- FREE VALUE: which outcome choice `k` has when an NMI edge meets a BRK (60_exceptions.md R306).
Assumption log 10. -/
opaque brkNmi : Nat → BrkNmi

end Config

end Sys2Proof
end

