-- ==== Sys2Proof/Machine/State.lean ====
section
/-! DEFINITION. The machine's state as plain data (10_state.md R20 to R37), its two ways to stop, and the
state right after reset. -/

namespace Sys2Proof.Machine

/-- What the environment presents at one instruction boundary: the reset input, an edge on NMI and the
level of IRQ (00_scope.md R5, 60_exceptions.md R304 to R306). `true` is asserted. -/
structure Signals where
  reset : Bool
  nmi : Bool
  irq : Bool
  deriving DecidableEq, Repr

/-- Nothing is signalled. -/
def Signals.quiet : Signals := { reset := false, nmi := false, irq := false }

/-- Memory: the bytes that differ from what an unlisted address reads as, by rising address. -/
abbrev Memory := List Host.Cell

structure State where
  /-- A, the accumulator (R20) -/
  a : Byte
  /-- X, an index register (R21) -/
  x : Byte
  /-- Y, an index register (R22) -/
  y : Byte
  /-- SP, the low byte of the next free stack address (R23) -/
  sp : Byte
  /-- PC (R24) -/
  pc : Addr
  /-- N, negative (R31) -/
  n : Bool
  /-- V, overflow (R30) -/
  v : Bool
  /-- D, decimal mode (R29) -/
  d : Bool
  /-- I, the interrupt mask (R28) -/
  i : Bool
  /-- Z, zero (R27) -/
  z : Bool
  /-- C, carry (R26) -/
  c : Bool
  /-- the 65,536 bytes (R35, R50) -/
  mem : Memory
  /-- nmi_pending (R36) -/
  nmiPending : Bool
  /-- I_prev: I at the start of the instruction that has just completed (R36, R317) -/
  iPrev : Bool
  /-- the platform's parameters (00_scope.md R5); no step changes them -/
  platform : Platform
  /-- the MODEL's field: the samples of the coming boundaries, the next one first (assumption log 8) -/
  inputs : List Signals
  /-- the MODEL's field: arbitrary values drawn so far (assumption log 6, 7) -/
  draws : Nat
  /-- the MODEL's field: boundary choices made so far (assumption log 9, 10) -/
  choices : Nat
  deriving DecidableEq, Repr

/-- The processor has no fault: no bus error, no access, alignment or privilege fault and no illegal
instruction trap (20_memory.md R58, 60_exceptions.md R301). Nothing raises one, so the type is empty;
that is exact, neither safe nor unsafe (assumption log 15). -/
inductive Fault
  deriving DecidableEq, Repr

/-- Why the model declines a step. -/
inductive Refusal
  /-- Raised by no meaning: an arm of `exec` with no meaning would raise it, and there is none. Safe. -/
  | notModelled (mnemonic : String)
  /-- Raised by the fetch of an op-code byte outside the table of R97 (30_encoding.md R100). Safe: nothing
  is proved of a run that reaches it. -/
  | unlistedOpcode (op : Byte)
  /-- Raised by an access to an address of kind `device`, whose behaviour the spec does not give
  (20_memory.md R57, R66). Safe: nothing is proved of a run that reaches it. -/
  | deviceAccess (addr : Addr)
  deriving DecidableEq, Repr

/-- The spec's default platform: ram at every address (R57), the NMOS decimal algorithm (R126, R127). -/
def defaultPlatform : Platform := { memMap := [], decimal := .nmos }

/-- The machine right after reset (10_state.md R37): I and I_prev set, no NMI pending, PC from the vector
at &FFFC, which reads &0000 over a memory with nothing listed. A, X, Y, SP, N, V, D, Z and C have no value
in the spec; theirs are DESIGN CHOICES (assumption log 2). -/
def State.reset : State where
  a := 0x00#8
  x := 0x00#8
  y := 0x00#8
  sp := 0xFD#8
  pc := 0x0000#16
  n := false
  v := false
  d := false
  i := true
  z := false
  c := false
  mem := []
  nmiPending := false
  iPrev := true
  platform := defaultPlatform
  inputs := []
  draws := 0
  choices := 0

end Sys2Proof.Machine
end

