-- ==== Sys2Proof/Machine/Flags.lean ====
section
/-! DEFINITION. Every flag computation of the spec: N and Z of a result, the status byte, the outputs of
binary and decimal addition and subtraction, of a comparison and of a shift. -/

namespace Sys2Proof.Machine

/-- `setNZ(v)` (00_scope.md R10): N is bit 7 of the result, Z says that it is zero (R27, R31). -/
def State.setNZ (s : State) (r : Byte) : State := { s with n := r.msb, z := r == 0#8 }

/-- Bit `k` of the status byte. -/
def statusBit (b : Bool) (k : Nat) : Byte := (BitVec.ofNat 8 b.toNat) <<< k

/-- `P_byte(b)` (10_state.md R32): N V 1 b D I Z C from bit 7 down. -/
def State.pByte (s : State) (b : Bool) : Byte :=
  statusBit s.n 7 ||| statusBit s.v 6 ||| statusBit true 5 ||| statusBit b 4 |||
    statusBit s.d 3 ||| statusBit s.i 2 ||| statusBit s.z 1 ||| statusBit s.c 0

/-- `setP(v)` (10_state.md R33): the six flags from bits 7 6 3 2 1 0; bits 5 and 4 are ignored. -/
def State.setP (s : State) (p : Byte) : State :=
  { s with
    n := p.getLsbD 7
    v := p.getLsbD 6
    d := p.getLsbD 3
    i := p.getLsbD 2
    z := p.getLsbD 1
    c := p.getLsbD 0 }

/-- What an addition or a subtraction gives: the new A and the four flags it writes. -/
structure AluOut where
  a : Byte
  n : Bool
  v : Bool
  z : Bool
  c : Bool
  deriving DecidableEq, Repr

def State.putAlu (s : State) (r : AluOut) : State :=
  { s with a := r.a, n := r.n, v := r.v, z := r.z, c := r.c }

/-- ADC with D = 0 (40_arithmetic.md R121). -/
def adcBinary (a m : Byte) (c : Bool) : AluOut :=
  let t := a.toNat + m.toNat + c.toNat
  let r := BitVec.ofNat 8 t
  { a := r
    n := r.msb
    v := ((a ^^^ r) &&& (m ^^^ r)).msb
    z := r == 0#8
    c := decide (255 < t) }

/-- SBC with D = 0 (R122): "exactly binary ADC (rule R121) applied to the complemented operand". -/
def sbcBinary (a m : Byte) (c : Bool) : AluOut := adcBinary a (~~~m) c

/-- The low digit of a decimal ADC, adjusted, with the carry into the high digit (R126). -/
def adcLowDigit (a m : Byte) (c : Bool) : Nat :=
  let al := a.toNat % 16 + m.toNat % 16 + c.toNat
  if 0x0A ≤ al then (al + 0x06) % 16 + 0x10 else al

/-- ADC with D = 1, the NMOS algorithm (R126): Z from the binary sum, N and V from the intermediate value
`t`, A and C from the adjusted one. -/
def adcDecimal (a m : Byte) (c : Bool) : AluOut :=
  let bin := BitVec.ofNat 8 (a.toNat + m.toNat + c.toNat)
  let t := (a &&& 0xF0#8).toNat + (m &&& 0xF0#8).toNat + adcLowDigit a m c
  let r := BitVec.ofNat 8 t
  let u := if 0xA0 ≤ t then t + 0x60 else t
  { a := BitVec.ofNat 8 u
    n := r.msb
    v := ((a ^^^ r) &&& (m ^^^ r)).msb
    z := bin == 0#8
    c := decide (0x100 ≤ u) }

/-- The low digit of a decimal SBC, adjusted, with the borrow from the high digit (R127). `%` on `Int` is
the remainder of 0 … 15, which is `& 0x0F` on the two's-complement representation. -/
def sbcLowDigit (a m : Byte) (c : Bool) : Int :=
  let al : Int := (a.toNat % 16 : Nat) - (m.toNat % 16 : Nat) + c.toNat - 1
  if al < 0 then (al - 0x06) % 16 - 0x10 else al

/-- SBC with D = 1, the NMOS algorithm (R127): the flags of the binary subtraction, A decimal. -/
def sbcDecimal (a m : Byte) (c : Bool) : AluOut :=
  let t : Int := (a &&& 0xF0#8).toNat - (m &&& 0xF0#8).toNat + sbcLowDigit a m c
  { sbcBinary a m c with a := BitVec.ofInt 8 (if t < 0 then t - 0x60 else t) }

/-- A byte of two decimal digits. -/
def validBcd (b : Byte) : Bool := b.toNat % 16 ≤ 9 && b.toNat / 16 ≤ 9

/-- ADC or SBC with D = 1 under the conservative `DecimalModel` (40_arithmetic.md "Decimal mode", U2): A
and C as the algorithm gives them when both operands are valid BCD; N, V, Z always, and A and C otherwise,
are draws. -/
def State.putAluDrawn (s : State) (valid : Bool) (r : AluOut) : State :=
  { s with
    a := if valid then r.a else Config.freeByte s.draws
    c := if valid then r.c else Config.freeBit s.draws
    n := Config.freeBit (s.draws + 1)
    v := Config.freeBit (s.draws + 2)
    z := Config.freeBit (s.draws + 3)
    draws := s.draws + 4 }

/-- A decimal result, as the platform's `DecimalModel` reads it (00_scope.md R5). -/
def State.putDecimal (s : State) (m : Byte) (r : AluOut) : State :=
  match s.platform.decimal with
  | .nmos => s.putAlu r
  | .conservative => s.putAluDrawn (validBcd s.a && validBcd m) r

/-- A comparison of `reg` with `m` (R123): C when no borrow, N and Z of the wrapped difference. -/
def State.compare (s : State) (reg m : Byte) : State :=
  { s with c := decide (m.toNat ≤ reg.toNat) }.setNZ (reg - m)

/-- The flags of BIT (41_logical.md R143): Z of A and M, N and V from bits 7 and 6 of M. -/
def State.bitTest (s : State) (m : Byte) : State :=
  { s with z := s.a &&& m == 0#8, n := m.getLsbD 7, v := m.getLsbD 6 }

/-- What a shift or rotate gives: the byte, and the bit that leaves it for C. -/
structure ShiftOut where
  r : Byte
  c : Bool
  deriving DecidableEq, Repr

/-- ASL (42_shift_rotate.md R151). -/
def aslOut (v : Byte) (_c : Bool) : ShiftOut := { r := v <<< 1, c := v.getLsbD 7 }

/-- LSR (R152). -/
def lsrOut (v : Byte) (_c : Bool) : ShiftOut := { r := v >>> 1, c := v.getLsbD 0 }

/-- ROL (R153): the old C enters bit 0. -/
def rolOut (v : Byte) (c : Bool) : ShiftOut := { r := (v <<< 1) ||| statusBit c 0, c := v.getLsbD 7 }

/-- ROR (R154): the old C enters bit 7. -/
def rorOut (v : Byte) (c : Bool) : ShiftOut := { r := (v >>> 1) ||| statusBit c 7, c := v.getLsbD 0 }

/-- The flags of a shift (R150): C is the bit shifted out, N and Z are the result's. For LSR this clears N,
since a zero enters bit 7 (R152). -/
def State.putShift (s : State) (o : ShiftOut) : State := { s with c := o.c }.setNZ o.r

end Sys2Proof.Machine
end

