-- ==== Sys2Proof/Machine/Ops.lean ====
section
/-! DEFINITION. The named operations: memory, the memory map, the stack, advancing PC, taking an
interrupt, returning from one, and the reset sequence. -/

namespace Sys2Proof.Machine

/-- One step's outcome. -/
abbrev Result := Host.Outcome State Fault Refusal

/-! ## The bytes of memory -/

/-- What an address that memory does not list reads as: the content of RAM that nothing has written, which
the spec leaves unspecified (R37). DESIGN CHOICE &00, assumption log 1. -/
def blankByte : Byte := 0x00#8

/-- The byte stored at address `k`. -/
def Memory.read : Memory → Nat → Byte
  | [], _ => blankByte
  | cell :: rest, k => if cell.1 = k then cell.2 else Memory.read rest k

/-- A cell put in its place by address. -/
def Memory.insert : Memory → Host.Cell → Memory
  | [], new => [new]
  | cell :: rest, new =>
    if new.1 < cell.1 then new :: cell :: rest else cell :: Memory.insert rest new

/-- Memory with `b` at address `k`, in canonical form when `m` is: an address that would read as if
unlisted is not listed. -/
def Memory.write (m : Memory) (k : Nat) (b : Byte) : Memory :=
  let others := m.filter fun cell => cell.1 != k
  if b = blankByte then others else Memory.insert others (k, b)

/-- Every listed address lies above `low`, they rise, and none is listed without need. -/
def Memory.wfAbove : Nat → Memory → Bool
  | _, [] => true
  | low, cell :: rest =>
    decide (low ≤ cell.1) && cell.2 != blankByte && decide (cell.1 < 65536) &&
      Memory.wfAbove (cell.1 + 1) rest

/-- The canonical form: addresses strictly rising inside the 65,536 of R50, and no entry equal to what an
unlisted address reads as. -/
def Memory.wf (m : Memory) : Bool := Memory.wfAbove 0 m

/-! ## The memory map (20_memory.md R57) -/

def Region.contains (r : Region) (k : Nat) : Bool := decide (r.base ≤ k) && decide (k < r.base + r.size)

/-- The kind of address `k`: that of the first region that contains it; ram, the default, outside all. -/
def kindIn : List Region → Nat → AddrKind
  | [], _ => .ram
  | r :: rest, k => if Region.contains r k then r.kind else kindIn rest k

def State.kindAt (s : State) (a : Addr) : AddrKind := kindIn s.platform.memMap a.toNat

/-- How many arbitrary values a read of `a` draws: one when unmapped (U5), else none. -/
def State.drawsAt (s : State) (a : Addr) : Nat :=
  match s.kindAt a with
  | .unmapped => 1
  | _ => 0

/-- `MemRead(a, 1)` (R58): the byte the next read of `a` gives. Memory holds it for ram and rom; at an
unmapped address it is a fresh draw. No device answers: a step that reads one is refused before. -/
def State.peek (s : State) (a : Addr) : Byte :=
  match s.kindAt a with
  | .unmapped => Config.freeByte s.draws
  | _ => Memory.read s.mem a.toNat

/-- The state after a read of `a`. -/
def State.afterRead (s : State) (a : Addr) : State := { s with draws := s.draws + s.drawsAt a }

/-- `MemWrite(a, 1, b)` (R57, R58): ram stores the byte; rom and unmapped addresses ignore it (U6). -/
def State.write (s : State) (a : Addr) (b : Byte) : State :=
  { s with
    mem := match s.kindAt a with
      | .ram => Memory.write s.mem a.toNat b
      | _ => s.mem }

/-- The bytes of reads at `as` in this order. -/
def State.peeks (s : State) : List Addr → List Byte
  | [] => []
  | a :: as => s.peek a :: State.peeks (s.afterRead a) as

/-- The state after reads at `as` in this order. -/
def State.afterReads (s : State) : List Addr → State
  | [] => s
  | a :: as => State.afterReads (s.afterRead a) as

/-- The first of the addresses that is a device's. -/
def State.blocked (s : State) : List Addr → Option Addr
  | [] => none
  | a :: as => if s.kindAt a = .device then some a else State.blocked s as

/-- A step that touches the addresses `as` and otherwise does what `r` says: refused when one of them is a
device's (R57 "if none is supplied the step is refused", R66). -/
def State.guarding (s : State) (as : List Addr) (r : Result) : Result :=
  match s.blocked as with
  | some a => .refused (.deviceAccess a)
  | none => r

/-- A step that touches the addresses `as` and otherwise ends in `t`. -/
def State.touching (s : State) (as : List Addr) (t : State) : Result := s.guarding as (.next t)

/-! ## 16-bit quantities (R52, R68) -/

/-- The high byte of an address. -/
def hiByte (a : Addr) : Byte := a.extractLsb' 8 8

/-- The low byte of an address. -/
def loByte (a : Addr) : Byte := a.extractLsb' 0 8

/-- An address of page zero: `0x00 : z` (R54). -/
def zpAddr (z : Byte) : Addr := 0x00#8 ++ z

/-- The two bytes at `lo` and `hi` as one address, the low one read first. -/
def State.peekPair (s : State) (lo hi : Addr) : Addr := (s.afterRead lo).peek hi ++ s.peek lo

def State.afterPair (s : State) (lo hi : Addr) : State := (s.afterRead lo).afterRead hi

/-- `Read16(a)` (R68). -/
def State.peek16 (s : State) (a : Addr) : Addr := s.peekPair a (a + 1#16)

def State.after16 (s : State) (a : Addr) : State := s.afterPair a (a + 1#16)

/-! ## The stack (R55, R67) -/

/-- `0x0100 | SP` for the stack pointer `p`. -/
def stackAddr (p : Byte) : Addr := 0x01#8 ++ p

/-- `push(v)`. -/
def State.push (s : State) (b : Byte) : State := { s.write (stackAddr s.sp) b with sp := s.sp - 1#8 }

/-- The byte `pull()` returns. -/
def State.pulled (s : State) : Byte := s.peek (stackAddr (s.sp + 1#8))

/-- The state `pull()` leaves. -/
def State.afterPull (s : State) : State :=
  { s.afterRead (stackAddr (s.sp + 1#8)) with sp := s.sp + 1#8 }

/-- The high byte, then the low byte, of a return address. -/
def State.pushAddr (s : State) (a : Addr) : State := (s.push (hiByte a)).push (loByte a)

/-- The address two pulls return, the low byte first. -/
def State.pulledAddr (s : State) : Addr := s.afterPull.pulled ++ s.pulled

/-- The addresses of the next `k` pushes. -/
def State.pushAddrs (s : State) : Nat → List Addr
  | 0 => []
  | k + 1 => State.pushAddrs s k ++ [stackAddr (s.sp - BitVec.ofNat 8 k)]

/-- The addresses of the next `k` pulls. -/
def State.pullAddrs (s : State) : Nat → List Addr
  | 0 => []
  | k + 1 => State.pullAddrs s k ++ [stackAddr (s.sp + BitVec.ofNat 8 (k + 1))]

/-- The addresses on the stack that an instruction with `k` pulls touches: before the first pull the part
reads, and discards, the byte at `0x0100 | SP` (R66, 93_implementation_defined.md U8). -/
def State.pullSpan (s : State) (k : Nat) : List Addr := stackAddr s.sp :: s.pullAddrs k

/-! ## Starting an instruction -/

/-- What every instruction does first: PC moves past its `len` bytes (30_encoding.md R104), and I_prev
takes the I it starts with (10_state.md R36). -/
def State.start (s : State) (len : Addr) : State := { s with pc := s.pc + len, iPrev := s.i }

/-! ## Taking an exception, and returning (60_exceptions.md) -/

def nmiVector : Addr := 0xFFFA#16
def resetVector : Addr := 0xFFFC#16
def irqVector : Addr := 0xFFFE#16

/-- The addresses that an entry, or the reset sequence, touches through `vector`: three of the stack, written
or (R340) read, and the vector. -/
def State.entryAddrs (s : State) (vector : Addr) : List Addr :=
  s.pushAddrs 3 ++ [vector, vector + 1#16]

/-- The state with PC and the status byte stacked and I set (R303). -/
def State.stacked (s : State) (b : Bool) : State :=
  let s1 := s.pushAddr s.pc
  { s1.push (s1.pByte b) with i := true }

/-- `Interrupt(vector, b)` (R303), the common entry of NMI, IRQ and BRK: PC high, PC low and the status byte
are pushed, I is set, PC is read from the vector; I_prev takes the new I (R317). D and the other flags stay
(R318). -/
def interrupt (vector : Addr) (b : Bool) (s : State) : Result :=
  let s1 := s.stacked b
  s.touching (s.entryAddrs vector)
    { s1.after16 vector with pc := s1.peek16 vector, iPrev := true }

/-- The return from an interrupt (44_system.md R181, 60_exceptions.md R308): the status byte, then PC low,
then PC high; PC as pulled; I_prev takes the new I (R317). PC stands at the byte after the instruction, which
the part reads and discards (R66). -/
def returnFromInterrupt (s : State) : Result :=
  let s1 := s.afterPull.setP s.pulled
  s.touching (s.pc :: s.pullSpan 3)
    { s1.afterPull.afterPull with pc := s1.pulledAddr, iPrev := s1.i }

/-- The reset sequence (70_reset_and_hazards.md R340): three stack cycles that read and discard, by which SP
falls by three with nothing stored; I is set, no NMI is pending, I_prev is set, PC comes from the vector at
&FFFC. Nothing else is written. -/
def resetSequence (s : State) : Result :=
  s.touching (s.entryAddrs resetVector)
    { s.after16 resetVector with
      sp := s.sp - 3#8
      i := true
      nmiPending := false
      iPrev := true
      pc := s.peek16 resetVector }

end Sys2Proof.Machine
end

