-- ==== Sys2Proof/Machine/Boundary.lean ====
section
/-! DEFINITION. The instruction boundary: RESET, NMI and IRQ (60_exceptions.md R304 to R307, R317). -/

namespace Sys2Proof.Machine

/-- What happens at a boundary: an event is taken instead of the next instruction, or the instruction at PC
is executed. -/
inductive Boundary where
  | taken (r : Result)
  | execute (s : State)

/-- What the environment presents at this boundary; nothing when no sample is left (assumption log 8). -/
def State.signals (s : State) : Signals := s.inputs.headD Signals.quiet

/-- The state once this boundary's sample has been read. -/
def State.sampled (s : State) : State := { s with inputs := s.inputs.tail }

/-- "The mask allows it": I = 0 or I_prev = 0 (R304, R317). -/
def State.irqAllowed (s : State) : Bool := !s.i || !s.iPrev

/-- The NMI is taken; I is not consulted (R305). -/
def takeNmi (s : State) : Result := interrupt nmiVector false { s with nmiPending := false }

/-- The IRQ is taken; nothing latches or clears it (R304). -/
def takeIrq (s : State) : Result := interrupt irqVector false s

/-- The op-code at PC is &00 (R306). A device's address has no byte to look at. DESIGN CHOICE (assumption log
10): looking is no read and raises no draw, so at an unmapped PC the byte looked at is the next draw, which
whatever unmapped read comes next then gives: the fetch, or an NMI's vector. -/
def State.atBrk (s : State) : Bool := decide (s.kindAt s.pc ≠ .device) && (s.peek s.pc == 0x00#8)

/-- Outcome (c) of R306: BRK's frame, with B = 1 and `pc0 + 2`, through the NMI vector. The byte after the
BRK is read and discarded, as by BRK itself (20_memory.md R66). -/
def captureBrk (s : State) : Result :=
  s.guarding [s.pc + 1#16]
    (interrupt nmiVector true { s.afterRead s.pc with pc := s.pc + 2#16, nmiPending := false })

/-- An edge on NMI at this boundary (R305), and its three outcomes before a BRK (R306). Where the NMI is taken
the look at PC has raised no draw (`State.atBrk`, assumption log 10). -/
def nmiEdge (s : State) : Boundary :=
  if s.atBrk then
    let s1 := { s with choices := s.choices + 1 }
    match Config.brkNmi s.choices with
    | .nmiFirst => .taken (takeNmi s1)
    | .brkThenNmi => .execute { s1 with nmiPending := true }
    | .captured => .taken (captureBrk s1)
  else .taken (takeNmi s)

/-- An IRQ that the mask allows may be taken now or not (R304). -/
def irqRequest (s : State) : Boundary :=
  let s1 := { s with choices := s.choices + 1 }
  if Config.irqTaken s.choices then .taken (takeIrq s1) else .execute s1

/-- The boundary before the next instruction: RESET first, then NMI, then IRQ (R306). -/
def boundary (s : State) : Boundary :=
  let s1 := s.sampled
  if s.signals.reset then .taken (resetSequence s1)
  else if s.nmiPending then .taken (takeNmi s1)
  else if s.signals.nmi then nmiEdge s1
  else if s.signals.irq && s.irqAllowed then irqRequest s1
  else .execute s1

end Sys2Proof.Machine
end

