-- ==== Sys2Proof/Syntax.lean ====
section
/-! DEFINITION. The instructions: one constructor for each of the 151 rows of opcode_table.json
(30_encoding.md R97), with the operand fields of R83 as its arguments, and the mnemonic and operand form
of each (R81, R105). -/

namespace Sys2Proof

/-- The 56 mnemonics (R102). -/
inductive Mnemonic
  | ADC | AND | ASL | BCC | BCS | BEQ | BIT | BMI
  | BNE | BPL | BRK | BVC | BVS | CLC | CLD | CLI
  | CLV | CMP | CPX | CPY | DEC | DEX | DEY | EOR
  | INC | INX | INY | JMP | JSR | LDA | LDX | LDY
  | LSR | NOP | ORA | PHA | PHP | PLA | PLP | ROL
  | ROR | RTI | RTS | SBC | SEC | SED | SEI | STA
  | STX | STY | TAX | TAY | TYA | TSX | TXA | TXS
  deriving DecidableEq, Repr

/-- The thirteen address modes, by the codes of R81. -/
inductive Mode
  | IMP | ACC | IMM | ZP | ZPX | ZPY | ABS | ABX | ABY | IZX | IZY | IND | REL
  deriving DecidableEq, Repr

/-- The modes that name a byte of memory by an effective address (R87 to R94). -/
inductive MemMode
  | zp (z : Byte)
  | zpx (z : Byte)
  | zpy (z : Byte)
  | abs (addr : Addr)
  | abx (addr : Addr)
  | aby (addr : Addr)
  | izx (z : Byte)
  | izy (z : Byte)
  deriving DecidableEq, Repr

/-- An operand in one of the thirteen modes. -/
inductive Operand
  | imp
  | acc
  | imm (v : Byte)
  | mem (m : MemMode)
  | ind (addr : Addr)
  | rel (offset : Byte)
  deriving DecidableEq, Repr

def MemMode.mode : MemMode → Mode
  | .zp _ => .ZP
  | .zpx _ => .ZPX
  | .zpy _ => .ZPY
  | .abs _ => .ABS
  | .abx _ => .ABX
  | .aby _ => .ABY
  | .izx _ => .IZX
  | .izy _ => .IZY

def Operand.mode : Operand → Mode
  | .imp => .IMP
  | .acc => .ACC
  | .imm _ => .IMM
  | .mem m => m.mode
  | .ind _ => .IND
  | .rel _ => .REL

/-- The documented instructions. -/
inductive Instr
  | adcImm (v : Byte)
  | adcZp (z : Byte)
  | adcZpx (z : Byte)
  | adcAbs (addr : Addr)
  | adcAbx (addr : Addr)
  | adcAby (addr : Addr)
  | adcIzx (z : Byte)
  | adcIzy (z : Byte)
  | andImm (v : Byte)
  | andZp (z : Byte)
  | andZpx (z : Byte)
  | andAbs (addr : Addr)
  | andAbx (addr : Addr)
  | andAby (addr : Addr)
  | andIzx (z : Byte)
  | andIzy (z : Byte)
  | aslAcc
  | aslZp (z : Byte)
  | aslZpx (z : Byte)
  | aslAbs (addr : Addr)
  | aslAbx (addr : Addr)
  | bcc (rel : Byte)
  | bcs (rel : Byte)
  | beq (rel : Byte)
  | bitZp (z : Byte)
  | bitAbs (addr : Addr)
  | bmi (rel : Byte)
  | bne (rel : Byte)
  | bpl (rel : Byte)
  | brk
  | bvc (rel : Byte)
  | bvs (rel : Byte)
  | clc
  | cld
  | cli
  | clv
  | cmpImm (v : Byte)
  | cmpZp (z : Byte)
  | cmpZpx (z : Byte)
  | cmpAbs (addr : Addr)
  | cmpAbx (addr : Addr)
  | cmpAby (addr : Addr)
  | cmpIzx (z : Byte)
  | cmpIzy (z : Byte)
  | cpxImm (v : Byte)
  | cpxZp (z : Byte)
  | cpxAbs (addr : Addr)
  | cpyImm (v : Byte)
  | cpyZp (z : Byte)
  | cpyAbs (addr : Addr)
  | decZp (z : Byte)
  | decZpx (z : Byte)
  | decAbs (addr : Addr)
  | decAbx (addr : Addr)
  | dex
  | dey
  | eorImm (v : Byte)
  | eorZp (z : Byte)
  | eorZpx (z : Byte)
  | eorAbs (addr : Addr)
  | eorAbx (addr : Addr)
  | eorAby (addr : Addr)
  | eorIzx (z : Byte)
  | eorIzy (z : Byte)
  | incZp (z : Byte)
  | incZpx (z : Byte)
  | incAbs (addr : Addr)
  | incAbx (addr : Addr)
  | inx
  | iny
  | jmpAbs (addr : Addr)
  | jmpInd (addr : Addr)
  | jsr (addr : Addr)
  | ldaImm (v : Byte)
  | ldaZp (z : Byte)
  | ldaZpx (z : Byte)
  | ldaAbs (addr : Addr)
  | ldaAbx (addr : Addr)
  | ldaAby (addr : Addr)
  | ldaIzx (z : Byte)
  | ldaIzy (z : Byte)
  | ldxImm (v : Byte)
  | ldxZp (z : Byte)
  | ldxZpy (z : Byte)
  | ldxAbs (addr : Addr)
  | ldxAby (addr : Addr)
  | ldyImm (v : Byte)
  | ldyZp (z : Byte)
  | ldyZpx (z : Byte)
  | ldyAbs (addr : Addr)
  | ldyAbx (addr : Addr)
  | lsrAcc
  | lsrZp (z : Byte)
  | lsrZpx (z : Byte)
  | lsrAbs (addr : Addr)
  | lsrAbx (addr : Addr)
  | nop
  | oraImm (v : Byte)
  | oraZp (z : Byte)
  | oraZpx (z : Byte)
  | oraAbs (addr : Addr)
  | oraAbx (addr : Addr)
  | oraAby (addr : Addr)
  | oraIzx (z : Byte)
  | oraIzy (z : Byte)
  | pha
  | php
  | pla
  | plp
  | rolAcc
  | rolZp (z : Byte)
  | rolZpx (z : Byte)
  | rolAbs (addr : Addr)
  | rolAbx (addr : Addr)
  | rorAcc
  | rorZp (z : Byte)
  | rorZpx (z : Byte)
  | rorAbs (addr : Addr)
  | rorAbx (addr : Addr)
  | rti
  | rts
  | sbcImm (v : Byte)
  | sbcZp (z : Byte)
  | sbcZpx (z : Byte)
  | sbcAbs (addr : Addr)
  | sbcAbx (addr : Addr)
  | sbcAby (addr : Addr)
  | sbcIzx (z : Byte)
  | sbcIzy (z : Byte)
  | sec
  | sed
  | sei
  | staZp (z : Byte)
  | staZpx (z : Byte)
  | staAbs (addr : Addr)
  | staAbx (addr : Addr)
  | staAby (addr : Addr)
  | staIzx (z : Byte)
  | staIzy (z : Byte)
  | stxZp (z : Byte)
  | stxZpy (z : Byte)
  | stxAbs (addr : Addr)
  | styZp (z : Byte)
  | styZpx (z : Byte)
  | styAbs (addr : Addr)
  | tax
  | tay
  | tya
  | tsx
  | txa
  | txs
  deriving DecidableEq, Repr

/-- The mnemonic and the operand of each row of R97. -/
def Instr.form : Instr → Mnemonic × Operand
  | .adcImm v => (.ADC, .imm v)
  | .adcZp z => (.ADC, .mem (.zp z))
  | .adcZpx z => (.ADC, .mem (.zpx z))
  | .adcAbs addr => (.ADC, .mem (.abs addr))
  | .adcAbx addr => (.ADC, .mem (.abx addr))
  | .adcAby addr => (.ADC, .mem (.aby addr))
  | .adcIzx z => (.ADC, .mem (.izx z))
  | .adcIzy z => (.ADC, .mem (.izy z))
  | .andImm v => (.AND, .imm v)
  | .andZp z => (.AND, .mem (.zp z))
  | .andZpx z => (.AND, .mem (.zpx z))
  | .andAbs addr => (.AND, .mem (.abs addr))
  | .andAbx addr => (.AND, .mem (.abx addr))
  | .andAby addr => (.AND, .mem (.aby addr))
  | .andIzx z => (.AND, .mem (.izx z))
  | .andIzy z => (.AND, .mem (.izy z))
  | .aslAcc => (.ASL, .acc)
  | .aslZp z => (.ASL, .mem (.zp z))
  | .aslZpx z => (.ASL, .mem (.zpx z))
  | .aslAbs addr => (.ASL, .mem (.abs addr))
  | .aslAbx addr => (.ASL, .mem (.abx addr))
  | .bcc rel => (.BCC, .rel rel)
  | .bcs rel => (.BCS, .rel rel)
  | .beq rel => (.BEQ, .rel rel)
  | .bitZp z => (.BIT, .mem (.zp z))
  | .bitAbs addr => (.BIT, .mem (.abs addr))
  | .bmi rel => (.BMI, .rel rel)
  | .bne rel => (.BNE, .rel rel)
  | .bpl rel => (.BPL, .rel rel)
  | .brk => (.BRK, .imp)
  | .bvc rel => (.BVC, .rel rel)
  | .bvs rel => (.BVS, .rel rel)
  | .clc => (.CLC, .imp)
  | .cld => (.CLD, .imp)
  | .cli => (.CLI, .imp)
  | .clv => (.CLV, .imp)
  | .cmpImm v => (.CMP, .imm v)
  | .cmpZp z => (.CMP, .mem (.zp z))
  | .cmpZpx z => (.CMP, .mem (.zpx z))
  | .cmpAbs addr => (.CMP, .mem (.abs addr))
  | .cmpAbx addr => (.CMP, .mem (.abx addr))
  | .cmpAby addr => (.CMP, .mem (.aby addr))
  | .cmpIzx z => (.CMP, .mem (.izx z))
  | .cmpIzy z => (.CMP, .mem (.izy z))
  | .cpxImm v => (.CPX, .imm v)
  | .cpxZp z => (.CPX, .mem (.zp z))
  | .cpxAbs addr => (.CPX, .mem (.abs addr))
  | .cpyImm v => (.CPY, .imm v)
  | .cpyZp z => (.CPY, .mem (.zp z))
  | .cpyAbs addr => (.CPY, .mem (.abs addr))
  | .decZp z => (.DEC, .mem (.zp z))
  | .decZpx z => (.DEC, .mem (.zpx z))
  | .decAbs addr => (.DEC, .mem (.abs addr))
  | .decAbx addr => (.DEC, .mem (.abx addr))
  | .dex => (.DEX, .imp)
  | .dey => (.DEY, .imp)
  | .eorImm v => (.EOR, .imm v)
  | .eorZp z => (.EOR, .mem (.zp z))
  | .eorZpx z => (.EOR, .mem (.zpx z))
  | .eorAbs addr => (.EOR, .mem (.abs addr))
  | .eorAbx addr => (.EOR, .mem (.abx addr))
  | .eorAby addr => (.EOR, .mem (.aby addr))
  | .eorIzx z => (.EOR, .mem (.izx z))
  | .eorIzy z => (.EOR, .mem (.izy z))
  | .incZp z => (.INC, .mem (.zp z))
  | .incZpx z => (.INC, .mem (.zpx z))
  | .incAbs addr => (.INC, .mem (.abs addr))
  | .incAbx addr => (.INC, .mem (.abx addr))
  | .inx => (.INX, .imp)
  | .iny => (.INY, .imp)
  | .jmpAbs addr => (.JMP, .mem (.abs addr))
  | .jmpInd addr => (.JMP, .ind addr)
  | .jsr addr => (.JSR, .mem (.abs addr))
  | .ldaImm v => (.LDA, .imm v)
  | .ldaZp z => (.LDA, .mem (.zp z))
  | .ldaZpx z => (.LDA, .mem (.zpx z))
  | .ldaAbs addr => (.LDA, .mem (.abs addr))
  | .ldaAbx addr => (.LDA, .mem (.abx addr))
  | .ldaAby addr => (.LDA, .mem (.aby addr))
  | .ldaIzx z => (.LDA, .mem (.izx z))
  | .ldaIzy z => (.LDA, .mem (.izy z))
  | .ldxImm v => (.LDX, .imm v)
  | .ldxZp z => (.LDX, .mem (.zp z))
  | .ldxZpy z => (.LDX, .mem (.zpy z))
  | .ldxAbs addr => (.LDX, .mem (.abs addr))
  | .ldxAby addr => (.LDX, .mem (.aby addr))
  | .ldyImm v => (.LDY, .imm v)
  | .ldyZp z => (.LDY, .mem (.zp z))
  | .ldyZpx z => (.LDY, .mem (.zpx z))
  | .ldyAbs addr => (.LDY, .mem (.abs addr))
  | .ldyAbx addr => (.LDY, .mem (.abx addr))
  | .lsrAcc => (.LSR, .acc)
  | .lsrZp z => (.LSR, .mem (.zp z))
  | .lsrZpx z => (.LSR, .mem (.zpx z))
  | .lsrAbs addr => (.LSR, .mem (.abs addr))
  | .lsrAbx addr => (.LSR, .mem (.abx addr))
  | .nop => (.NOP, .imp)
  | .oraImm v => (.ORA, .imm v)
  | .oraZp z => (.ORA, .mem (.zp z))
  | .oraZpx z => (.ORA, .mem (.zpx z))
  | .oraAbs addr => (.ORA, .mem (.abs addr))
  | .oraAbx addr => (.ORA, .mem (.abx addr))
  | .oraAby addr => (.ORA, .mem (.aby addr))
  | .oraIzx z => (.ORA, .mem (.izx z))
  | .oraIzy z => (.ORA, .mem (.izy z))
  | .pha => (.PHA, .imp)
  | .php => (.PHP, .imp)
  | .pla => (.PLA, .imp)
  | .plp => (.PLP, .imp)
  | .rolAcc => (.ROL, .acc)
  | .rolZp z => (.ROL, .mem (.zp z))
  | .rolZpx z => (.ROL, .mem (.zpx z))
  | .rolAbs addr => (.ROL, .mem (.abs addr))
  | .rolAbx addr => (.ROL, .mem (.abx addr))
  | .rorAcc => (.ROR, .acc)
  | .rorZp z => (.ROR, .mem (.zp z))
  | .rorZpx z => (.ROR, .mem (.zpx z))
  | .rorAbs addr => (.ROR, .mem (.abs addr))
  | .rorAbx addr => (.ROR, .mem (.abx addr))
  | .rti => (.RTI, .imp)
  | .rts => (.RTS, .imp)
  | .sbcImm v => (.SBC, .imm v)
  | .sbcZp z => (.SBC, .mem (.zp z))
  | .sbcZpx z => (.SBC, .mem (.zpx z))
  | .sbcAbs addr => (.SBC, .mem (.abs addr))
  | .sbcAbx addr => (.SBC, .mem (.abx addr))
  | .sbcAby addr => (.SBC, .mem (.aby addr))
  | .sbcIzx z => (.SBC, .mem (.izx z))
  | .sbcIzy z => (.SBC, .mem (.izy z))
  | .sec => (.SEC, .imp)
  | .sed => (.SED, .imp)
  | .sei => (.SEI, .imp)
  | .staZp z => (.STA, .mem (.zp z))
  | .staZpx z => (.STA, .mem (.zpx z))
  | .staAbs addr => (.STA, .mem (.abs addr))
  | .staAbx addr => (.STA, .mem (.abx addr))
  | .staAby addr => (.STA, .mem (.aby addr))
  | .staIzx z => (.STA, .mem (.izx z))
  | .staIzy z => (.STA, .mem (.izy z))
  | .stxZp z => (.STX, .mem (.zp z))
  | .stxZpy z => (.STX, .mem (.zpy z))
  | .stxAbs addr => (.STX, .mem (.abs addr))
  | .styZp z => (.STY, .mem (.zp z))
  | .styZpx z => (.STY, .mem (.zpx z))
  | .styAbs addr => (.STY, .mem (.abs addr))
  | .tax => (.TAX, .imp)
  | .tay => (.TAY, .imp)
  | .tya => (.TYA, .imp)
  | .tsx => (.TSX, .imp)
  | .txa => (.TXA, .imp)
  | .txs => (.TXS, .imp)

def Instr.mnemonic (i : Instr) : Mnemonic := i.form.1

def Instr.operand (i : Instr) : Operand := i.form.2

def Instr.mode (i : Instr) : Mode := i.operand.mode

end Sys2Proof
end

