-- ==== Sys2Proof/Machine/Operands.lean ====
section
/-! DEFINITION. The address modes (30_encoding.md R84 to R96): the effective address of each, the operand
it selects, and the shapes an instruction has over them. -/

namespace Sys2Proof.Machine

/-! ## Effective addresses -/

/-- The page-zero address of the pointer of an indirect mode: `zp8 +_8 X` (R93), `zp8` (R94). -/
def State.pointer (s : State) : MemMode → Option Byte
  | .izx z => some (z + s.x)
  | .izy z => some z
  | _ => none

/-- The addresses of the pointer's two bytes, both in page zero: `Read16ZP` (R68). -/
def State.pointerAddrs (s : State) (m : MemMode) : List Addr :=
  match s.pointer m with
  | some p => [zpAddr p, zpAddr (p + 1#8)]
  | none => []

/-- The address an index is added to; the whole address where the mode adds none with a carry (R87 to
R94). -/
def State.base (s : State) : MemMode → Addr
  | .zp z => zpAddr z
  | .zpx z => zpAddr (z + s.x)
  | .zpy z => zpAddr (z + s.y)
  | .abs a => a
  | .abx a => a
  | .aby a => a
  | .izx z => s.peekPair (zpAddr (z + s.x)) (zpAddr (z + s.x + 1#8))
  | .izy z => s.peekPair (zpAddr z) (zpAddr (z + 1#8))

/-- The index register that is added with a carry into the high byte (R91, R92, R94). -/
def State.indexOf (s : State) : MemMode → Byte
  | .abx _ => s.x
  | .aby _ => s.y
  | .izy _ => s.y
  | _ => 0#8

/-- The effective address `ea`. -/
def State.ea (s : State) (m : MemMode) : Addr := s.base m + (s.indexOf m).setWidth 16

/-- The address with the low byte of `ea` and the high byte of the un-indexed base: where the part makes
its extra read when the index crosses a page, and `ea` itself when it does not (20_memory.md R66). -/
def State.partner (s : State) (m : MemMode) : Addr :=
  hiByte (s.base m) ++ loByte (s.ea m)

/-- The addresses for which R57 and R66 ask whether a device stands there. -/
def State.touches (s : State) (m : MemMode) : List Addr :=
  s.pointerAddrs m ++ [s.ea m, s.partner m]

/-- The state after the pointer has been read. -/
def State.afterPointer (s : State) (m : MemMode) : State := s.afterReads (s.pointerAddrs m)

/-- `operand()`: the byte at the effective address. -/
def State.value (s : State) (m : MemMode) : Byte := (s.afterPointer m).peek (s.ea m)

/-- The state after the operand has been read. -/
def State.afterValue (s : State) (m : MemMode) : State :=
  (s.afterPointer m).afterRead (s.ea m)

/-- The instruction's bytes: two in the page-zero and indirect modes, three in the absolute ones (R81). -/
def modeLen : MemMode → Addr
  | .zp _ | .zpx _ | .zpy _ | .izx _ | .izy _ => 2#16
  | .abs _ | .abx _ | .aby _ => 3#16

/-! ## The shapes of an instruction -/

/-- One byte, no operand in memory (R84, R85). The part reads, and discards, the byte after it (20_memory.md
R66, 93_implementation_defined.md U8). -/
def implied (f : State → State) (s : State) : Result :=
  let s1 := s.start 1#16
  s1.touching [s1.pc] (f s1)

/-- The immediate byte is the operand (R86). -/
def immediate (v : Byte) (f : Byte → State → State) (s : State) : Result := .next (f v (s.start 2#16))

/-- The operand is read from memory, once. -/
def reading (m : MemMode) (f : Byte → State → State) (s : State) : Result :=
  let s1 := s.start (modeLen m)
  s1.touching (s1.touches m) (f (s1.value m) (s1.afterValue m))

/-- A register is stored at the effective address, which is not read. -/
def storing (m : MemMode) (reg : State → Byte) (s : State) : Result :=
  let s1 := s.start (modeLen m)
  s1.touching (s1.touches m) ((s1.afterPointer m).write (s1.ea m) (reg s1))

/-- Read-modify-write: the byte at the effective address is read, and `result` of it written back; `flags`
writes the flags. -/
def modifying (m : MemMode) (result : State → Byte → Byte) (flags : Byte → State → State) (s : State) :
    Result :=
  let s1 := s.start (modeLen m)
  let v := s1.value m
  s1.touching (s1.touches m)
    (flags v ((s1.afterValue m).write (s1.ea m) (result s1 v)))

/-- The target of a relative branch (R96): the offset, sign-extended, from the instruction that follows. -/
def branchTarget (rel : Byte) (next : Addr) : Addr := next + rel.signExtend 16

/-- A conditional branch (43_branch.md R160). -/
def branch (cond : State → Bool) (rel : Byte) (s : State) : Result :=
  let s1 := s.start 2#16
  .next { s1 with pc := if cond s1 then branchTarget rel s1.pc else s1.pc }

/-- Where the second byte of a JMP Indirect pointer stands: no carry into the high byte (R95). -/
def indirectHigh (ptr : Addr) : Addr := hiByte ptr ++ (loByte ptr + 1#8)

end Sys2Proof.Machine
end

