-- ==== Sys2Proof/Machine/Arithmetic.lean ====
section
/-! DEFINITION. Arithmetic and compare instructions (40_arithmetic.md R120 to R127). -/

namespace Sys2Proof.Machine

/-- ADC (R121; with D = 1, R126). -/
def State.adc (m : Byte) (s : State) : State :=
  if s.d then s.putDecimal m (adcDecimal s.a m s.c) else s.putAlu (adcBinary s.a m s.c)

/-- SBC (R122; with D = 1, R127). -/
def State.sbc (m : Byte) (s : State) : State :=
  if s.d then s.putDecimal m (sbcDecimal s.a m s.c) else s.putAlu (sbcBinary s.a m s.c)

/-- CMP (R123). -/
def State.cmp (m : Byte) (s : State) : State := s.compare s.a m

/-- CPX (R124). -/
def State.cpx (m : Byte) (s : State) : State := s.compare s.x m

/-- CPY (R125). -/
def State.cpy (m : Byte) (s : State) : State := s.compare s.y m

/-- ADC #v (&69; R121, R86). -/
def execAdcImm (v : Byte) (s : State) : Result := immediate v State.adc s

/-- ADC zp (&65; R121, R87). -/
def execAdcZp (z : Byte) (s : State) : Result := reading (.zp z) State.adc s

/-- ADC zp,X (&75; R121, R88). -/
def execAdcZpx (z : Byte) (s : State) : Result := reading (.zpx z) State.adc s

/-- ADC abs (&6D; R121, R90). -/
def execAdcAbs (addr : Addr) (s : State) : Result := reading (.abs addr) State.adc s

/-- ADC abs,X (&7D; R121, R91). -/
def execAdcAbx (addr : Addr) (s : State) : Result := reading (.abx addr) State.adc s

/-- ADC abs,Y (&79; R121, R92). -/
def execAdcAby (addr : Addr) (s : State) : Result := reading (.aby addr) State.adc s

/-- ADC (zp,X) (&61; R121, R93). -/
def execAdcIzx (z : Byte) (s : State) : Result := reading (.izx z) State.adc s

/-- ADC (zp),Y (&71; R121, R94). -/
def execAdcIzy (z : Byte) (s : State) : Result := reading (.izy z) State.adc s

/-- SBC #v (&E9; R122, R86). -/
def execSbcImm (v : Byte) (s : State) : Result := immediate v State.sbc s

/-- SBC zp (&E5; R122, R87). -/
def execSbcZp (z : Byte) (s : State) : Result := reading (.zp z) State.sbc s

/-- SBC zp,X (&F5; R122, R88). -/
def execSbcZpx (z : Byte) (s : State) : Result := reading (.zpx z) State.sbc s

/-- SBC abs (&ED; R122, R90). -/
def execSbcAbs (addr : Addr) (s : State) : Result := reading (.abs addr) State.sbc s

/-- SBC abs,X (&FD; R122, R91). -/
def execSbcAbx (addr : Addr) (s : State) : Result := reading (.abx addr) State.sbc s

/-- SBC abs,Y (&F9; R122, R92). -/
def execSbcAby (addr : Addr) (s : State) : Result := reading (.aby addr) State.sbc s

/-- SBC (zp,X) (&E1; R122, R93). -/
def execSbcIzx (z : Byte) (s : State) : Result := reading (.izx z) State.sbc s

/-- SBC (zp),Y (&F1; R122, R94). -/
def execSbcIzy (z : Byte) (s : State) : Result := reading (.izy z) State.sbc s

/-- CMP #v (&C9; R123, R86). -/
def execCmpImm (v : Byte) (s : State) : Result := immediate v State.cmp s

/-- CMP zp (&C5; R123, R87). -/
def execCmpZp (z : Byte) (s : State) : Result := reading (.zp z) State.cmp s

/-- CMP zp,X (&D5; R123, R88). -/
def execCmpZpx (z : Byte) (s : State) : Result := reading (.zpx z) State.cmp s

/-- CMP abs (&CD; R123, R90). -/
def execCmpAbs (addr : Addr) (s : State) : Result := reading (.abs addr) State.cmp s

/-- CMP abs,X (&DD; R123, R91). -/
def execCmpAbx (addr : Addr) (s : State) : Result := reading (.abx addr) State.cmp s

/-- CMP abs,Y (&D9; R123, R92). -/
def execCmpAby (addr : Addr) (s : State) : Result := reading (.aby addr) State.cmp s

/-- CMP (zp,X) (&C1; R123, R93). -/
def execCmpIzx (z : Byte) (s : State) : Result := reading (.izx z) State.cmp s

/-- CMP (zp),Y (&D1; R123, R94). -/
def execCmpIzy (z : Byte) (s : State) : Result := reading (.izy z) State.cmp s

/-- CPX #v (&E0; R124, R86). -/
def execCpxImm (v : Byte) (s : State) : Result := immediate v State.cpx s

/-- CPX zp (&E4; R124, R87). -/
def execCpxZp (z : Byte) (s : State) : Result := reading (.zp z) State.cpx s

/-- CPX abs (&EC; R124, R90). -/
def execCpxAbs (addr : Addr) (s : State) : Result := reading (.abs addr) State.cpx s

/-- CPY #v (&C0; R125, R86). -/
def execCpyImm (v : Byte) (s : State) : Result := immediate v State.cpy s

/-- CPY zp (&C4; R125, R87). -/
def execCpyZp (z : Byte) (s : State) : Result := reading (.zp z) State.cpy s

/-- CPY abs (&CC; R125, R90). -/
def execCpyAbs (addr : Addr) (s : State) : Result := reading (.abs addr) State.cpy s

end Sys2Proof.Machine
end

