-- ==== Sys2Proof/Machine/Branch.lean ====
section
/-! DEFINITION. Conditional branches (43_branch.md R160 to R168). -/

namespace Sys2Proof.Machine

/-- BCC (&90; R161, R96). -/
def execBcc (rel : Byte) (s : State) : Result := branch (! ·.c) rel s

/-- BCS (&B0; R162, R96). -/
def execBcs (rel : Byte) (s : State) : Result := branch (·.c) rel s

/-- BEQ (&F0; R163, R96). -/
def execBeq (rel : Byte) (s : State) : Result := branch (·.z) rel s

/-- BMI (&30; R164, R96). -/
def execBmi (rel : Byte) (s : State) : Result := branch (·.n) rel s

/-- BNE (&D0; R165, R96). -/
def execBne (rel : Byte) (s : State) : Result := branch (! ·.z) rel s

/-- BPL (&10; R166, R96). -/
def execBpl (rel : Byte) (s : State) : Result := branch (! ·.n) rel s

/-- BVC (&50; R167, R96). -/
def execBvc (rel : Byte) (s : State) : Result := branch (! ·.v) rel s

/-- BVS (&70; R168, R96). -/
def execBvs (rel : Byte) (s : State) : Result := branch (·.v) rel s

end Sys2Proof.Machine
end

