-- ==== Sys2Proof/Machine/Flag.lean ====
section
/-! DEFINITION. Flag instructions (45_flag.md R190 to R196). -/

namespace Sys2Proof.Machine

/-- CLC (&18; R190). -/
def execClc (s : State) : Result := implied (fun t => { t with c := false }) s

/-- CLD (&D8; R191). -/
def execCld (s : State) : Result := implied (fun t => { t with d := false }) s

/-- CLI (&58; R192). -/
def execCli (s : State) : Result := implied (fun t => { t with i := false }) s

/-- CLV (&B8; R193). -/
def execClv (s : State) : Result := implied (fun t => { t with v := false }) s

/-- SEC (&38; R194). -/
def execSec (s : State) : Result := implied (fun t => { t with c := true }) s

/-- SED (&F8; R195). -/
def execSed (s : State) : Result := implied (fun t => { t with d := true }) s

/-- SEI (&78; R196). -/
def execSei (s : State) : Result := implied (fun t => { t with i := true }) s

end Sys2Proof.Machine
end

