-- ==== Sys2Proof/Machine/IncDec.lean ====
section
/-! DEFINITION. Increment and decrement instructions (46_incdec.md R200 to R205). -/

namespace Sys2Proof.Machine

/-- `v +_8 1`. -/
def incByte (v : Byte) : Byte := v + 1#8

/-- `v -_8 1`. -/
def decByte (v : Byte) : Byte := v - 1#8

/-- DEC zp (&C6; R200, R87). -/
def execDecZp (z : Byte) (s : State) : Result :=
  modifying (.zp z) (fun _ v => decByte v) (fun v t => t.setNZ (decByte v)) s

/-- DEC zp,X (&D6; R200, R88). -/
def execDecZpx (z : Byte) (s : State) : Result :=
  modifying (.zpx z) (fun _ v => decByte v) (fun v t => t.setNZ (decByte v)) s

/-- DEC abs (&CE; R200, R90). -/
def execDecAbs (addr : Addr) (s : State) : Result :=
  modifying (.abs addr) (fun _ v => decByte v) (fun v t => t.setNZ (decByte v)) s

/-- DEC abs,X (&DE; R200, R91). -/
def execDecAbx (addr : Addr) (s : State) : Result :=
  modifying (.abx addr) (fun _ v => decByte v) (fun v t => t.setNZ (decByte v)) s

/-- DEX (&CA; R201). -/
def execDex (s : State) : Result := implied (fun t => { t with x := decByte t.x }.setNZ (decByte t.x)) s

/-- DEY (&88; R202). -/
def execDey (s : State) : Result := implied (fun t => { t with y := decByte t.y }.setNZ (decByte t.y)) s

/-- INC zp (&E6; R203, R87). -/
def execIncZp (z : Byte) (s : State) : Result :=
  modifying (.zp z) (fun _ v => incByte v) (fun v t => t.setNZ (incByte v)) s

/-- INC zp,X (&F6; R203, R88). -/
def execIncZpx (z : Byte) (s : State) : Result :=
  modifying (.zpx z) (fun _ v => incByte v) (fun v t => t.setNZ (incByte v)) s

/-- INC abs (&EE; R203, R90). -/
def execIncAbs (addr : Addr) (s : State) : Result :=
  modifying (.abs addr) (fun _ v => incByte v) (fun v t => t.setNZ (incByte v)) s

/-- INC abs,X (&FE; R203, R91). -/
def execIncAbx (addr : Addr) (s : State) : Result :=
  modifying (.abx addr) (fun _ v => incByte v) (fun v t => t.setNZ (incByte v)) s

/-- INX (&E8; R204). -/
def execInx (s : State) : Result := implied (fun t => { t with x := incByte t.x }.setNZ (incByte t.x)) s

/-- INY (&C8; R205). -/
def execIny (s : State) : Result := implied (fun t => { t with y := incByte t.y }.setNZ (incByte t.y)) s

end Sys2Proof.Machine
end

