-- ==== Sys2Proof/Machine/Jump.lean ====
section
/-! DEFINITION. Jumps, subroutine call and return (47_jump.md R210 to R212). -/

namespace Sys2Proof.Machine

/-- JMP abs (&4C; R210, R90). -/
def execJmpAbs (addr : Addr) (s : State) : Result := .next { s.start 3#16 with pc := addr }

/-- JMP (abs) (&6C; R210, R95). -/
def execJmpInd (addr : Addr) (s : State) : Result :=
  let s1 := s.start 3#16
  s1.touching [addr, indirectHigh addr]
    { s1.afterPair addr (indirectHigh addr) with pc := s1.peekPair addr (indirectHigh addr) }

/-- JSR (&20; R211, R90). The stack read of R66 is at the address of the first push. -/
def execJsr (addr : Addr) (s : State) : Result :=
  let s1 := s.start 3#16
  s1.touching (s1.pushAddrs 2) { s1.pushAddr (s.pc + 2#16) with pc := addr }

/-- RTS (&60; R212). -/
def execRts (s : State) : Result :=
  let s1 := s.start 1#16
  s1.touching (s1.pc :: s1.pullSpan 2) { s1.afterPull.afterPull with pc := s1.pulledAddr + 1#16 }

end Sys2Proof.Machine
end

