-- ==== Sys2Proof/Machine/LoadStore.lean ====
section
/-! DEFINITION. Loads and stores (48_load_store.md R220 to R225). -/

namespace Sys2Proof.Machine

/-- LDA (R220). -/
def State.lda (m : Byte) (s : State) : State := { s with a := m }.setNZ m

/-- LDX (R221). -/
def State.ldx (m : Byte) (s : State) : State := { s with x := m }.setNZ m

/-- LDY (R222). -/
def State.ldy (m : Byte) (s : State) : State := { s with y := m }.setNZ m

/-- LDA #v (&A9; R220, R86). -/
def execLdaImm (v : Byte) (s : State) : Result := immediate v State.lda s

/-- LDA zp (&A5; R220, R87). -/
def execLdaZp (z : Byte) (s : State) : Result := reading (.zp z) State.lda s

/-- LDA zp,X (&B5; R220, R88). -/
def execLdaZpx (z : Byte) (s : State) : Result := reading (.zpx z) State.lda s

/-- LDA abs (&AD; R220, R90). -/
def execLdaAbs (addr : Addr) (s : State) : Result := reading (.abs addr) State.lda s

/-- LDA abs,X (&BD; R220, R91). -/
def execLdaAbx (addr : Addr) (s : State) : Result := reading (.abx addr) State.lda s

/-- LDA abs,Y (&B9; R220, R92). -/
def execLdaAby (addr : Addr) (s : State) : Result := reading (.aby addr) State.lda s

/-- LDA (zp,X) (&A1; R220, R93). -/
def execLdaIzx (z : Byte) (s : State) : Result := reading (.izx z) State.lda s

/-- LDA (zp),Y (&B1; R220, R94). -/
def execLdaIzy (z : Byte) (s : State) : Result := reading (.izy z) State.lda s

/-- LDX #v (&A2; R221, R86). -/
def execLdxImm (v : Byte) (s : State) : Result := immediate v State.ldx s

/-- LDX zp (&A6; R221, R87). -/
def execLdxZp (z : Byte) (s : State) : Result := reading (.zp z) State.ldx s

/-- LDX zp,Y (&B6; R221, R89). -/
def execLdxZpy (z : Byte) (s : State) : Result := reading (.zpy z) State.ldx s

/-- LDX abs (&AE; R221, R90). -/
def execLdxAbs (addr : Addr) (s : State) : Result := reading (.abs addr) State.ldx s

/-- LDX abs,Y (&BE; R221, R92). -/
def execLdxAby (addr : Addr) (s : State) : Result := reading (.aby addr) State.ldx s

/-- LDY #v (&A0; R222, R86). -/
def execLdyImm (v : Byte) (s : State) : Result := immediate v State.ldy s

/-- LDY zp (&A4; R222, R87). -/
def execLdyZp (z : Byte) (s : State) : Result := reading (.zp z) State.ldy s

/-- LDY zp,X (&B4; R222, R88). -/
def execLdyZpx (z : Byte) (s : State) : Result := reading (.zpx z) State.ldy s

/-- LDY abs (&AC; R222, R90). -/
def execLdyAbs (addr : Addr) (s : State) : Result := reading (.abs addr) State.ldy s

/-- LDY abs,X (&BC; R222, R91). -/
def execLdyAbx (addr : Addr) (s : State) : Result := reading (.abx addr) State.ldy s

/-- STA zp (&85; R223, R87). -/
def execStaZp (z : Byte) (s : State) : Result := storing (.zp z) (·.a) s

/-- STA zp,X (&95; R223, R88). -/
def execStaZpx (z : Byte) (s : State) : Result := storing (.zpx z) (·.a) s

/-- STA abs (&8D; R223, R90). -/
def execStaAbs (addr : Addr) (s : State) : Result := storing (.abs addr) (·.a) s

/-- STA abs,X (&9D; R223, R91). -/
def execStaAbx (addr : Addr) (s : State) : Result := storing (.abx addr) (·.a) s

/-- STA abs,Y (&99; R223, R92). -/
def execStaAby (addr : Addr) (s : State) : Result := storing (.aby addr) (·.a) s

/-- STA (zp,X) (&81; R223, R93). -/
def execStaIzx (z : Byte) (s : State) : Result := storing (.izx z) (·.a) s

/-- STA (zp),Y (&91; R223, R94). -/
def execStaIzy (z : Byte) (s : State) : Result := storing (.izy z) (·.a) s

/-- STX zp (&86; R224, R87). -/
def execStxZp (z : Byte) (s : State) : Result := storing (.zp z) (·.x) s

/-- STX zp,Y (&96; R224, R89). -/
def execStxZpy (z : Byte) (s : State) : Result := storing (.zpy z) (·.x) s

/-- STX abs (&8E; R224, R90). -/
def execStxAbs (addr : Addr) (s : State) : Result := storing (.abs addr) (·.x) s

/-- STY zp (&84; R225, R87). -/
def execStyZp (z : Byte) (s : State) : Result := storing (.zp z) (·.y) s

/-- STY zp,X (&94; R225, R88). -/
def execStyZpx (z : Byte) (s : State) : Result := storing (.zpx z) (·.y) s

/-- STY abs (&8C; R225, R90). -/
def execStyAbs (addr : Addr) (s : State) : Result := storing (.abs addr) (·.y) s

end Sys2Proof.Machine
end

