-- ==== Sys2Proof/Machine/Logical.lean ====
section
/-! DEFINITION. Logical instructions (41_logical.md R140 to R143). -/

namespace Sys2Proof.Machine

/-- AND (R140). -/
def State.andA (m : Byte) (s : State) : State := { s with a := s.a &&& m }.setNZ (s.a &&& m)

/-- EOR (R141). -/
def State.eorA (m : Byte) (s : State) : State := { s with a := s.a ^^^ m }.setNZ (s.a ^^^ m)

/-- ORA (R142). -/
def State.oraA (m : Byte) (s : State) : State := { s with a := s.a ||| m }.setNZ (s.a ||| m)

/-- BIT (R143). -/
def State.bit (m : Byte) (s : State) : State := s.bitTest m

/-- AND #v (&29; R140, R86). -/
def execAndImm (v : Byte) (s : State) : Result := immediate v State.andA s

/-- AND zp (&25; R140, R87). -/
def execAndZp (z : Byte) (s : State) : Result := reading (.zp z) State.andA s

/-- AND zp,X (&35; R140, R88). -/
def execAndZpx (z : Byte) (s : State) : Result := reading (.zpx z) State.andA s

/-- AND abs (&2D; R140, R90). -/
def execAndAbs (addr : Addr) (s : State) : Result := reading (.abs addr) State.andA s

/-- AND abs,X (&3D; R140, R91). -/
def execAndAbx (addr : Addr) (s : State) : Result := reading (.abx addr) State.andA s

/-- AND abs,Y (&39; R140, R92). -/
def execAndAby (addr : Addr) (s : State) : Result := reading (.aby addr) State.andA s

/-- AND (zp,X) (&21; R140, R93). -/
def execAndIzx (z : Byte) (s : State) : Result := reading (.izx z) State.andA s

/-- AND (zp),Y (&31; R140, R94). -/
def execAndIzy (z : Byte) (s : State) : Result := reading (.izy z) State.andA s

/-- EOR #v (&49; R141, R86). -/
def execEorImm (v : Byte) (s : State) : Result := immediate v State.eorA s

/-- EOR zp (&45; R141, R87). -/
def execEorZp (z : Byte) (s : State) : Result := reading (.zp z) State.eorA s

/-- EOR zp,X (&55; R141, R88). -/
def execEorZpx (z : Byte) (s : State) : Result := reading (.zpx z) State.eorA s

/-- EOR abs (&4D; R141, R90). -/
def execEorAbs (addr : Addr) (s : State) : Result := reading (.abs addr) State.eorA s

/-- EOR abs,X (&5D; R141, R91). -/
def execEorAbx (addr : Addr) (s : State) : Result := reading (.abx addr) State.eorA s

/-- EOR abs,Y (&59; R141, R92). -/
def execEorAby (addr : Addr) (s : State) : Result := reading (.aby addr) State.eorA s

/-- EOR (zp,X) (&41; R141, R93). -/
def execEorIzx (z : Byte) (s : State) : Result := reading (.izx z) State.eorA s

/-- EOR (zp),Y (&51; R141, R94). -/
def execEorIzy (z : Byte) (s : State) : Result := reading (.izy z) State.eorA s

/-- ORA #v (&09; R142, R86). -/
def execOraImm (v : Byte) (s : State) : Result := immediate v State.oraA s

/-- ORA zp (&05; R142, R87). -/
def execOraZp (z : Byte) (s : State) : Result := reading (.zp z) State.oraA s

/-- ORA zp,X (&15; R142, R88). -/
def execOraZpx (z : Byte) (s : State) : Result := reading (.zpx z) State.oraA s

/-- ORA abs (&0D; R142, R90). -/
def execOraAbs (addr : Addr) (s : State) : Result := reading (.abs addr) State.oraA s

/-- ORA abs,X (&1D; R142, R91). -/
def execOraAbx (addr : Addr) (s : State) : Result := reading (.abx addr) State.oraA s

/-- ORA abs,Y (&19; R142, R92). -/
def execOraAby (addr : Addr) (s : State) : Result := reading (.aby addr) State.oraA s

/-- ORA (zp,X) (&01; R142, R93). -/
def execOraIzx (z : Byte) (s : State) : Result := reading (.izx z) State.oraA s

/-- ORA (zp),Y (&11; R142, R94). -/
def execOraIzy (z : Byte) (s : State) : Result := reading (.izy z) State.oraA s

/-- BIT zp (&24; R143, R87). -/
def execBitZp (z : Byte) (s : State) : Result := reading (.zp z) State.bit s

/-- BIT abs (&2C; R143, R90). -/
def execBitAbs (addr : Addr) (s : State) : Result := reading (.abs addr) State.bit s

end Sys2Proof.Machine
end

