-- ==== Sys2Proof/Machine/Shift.lean ====
section
/-! DEFINITION. Shift and rotate instructions (42_shift_rotate.md R150 to R154). -/

namespace Sys2Proof.Machine

/-- The Accumulator form (R150): A is the value and the destination. -/
def State.shiftA (shift : Byte → Bool → ShiftOut) (s : State) : State :=
  { s with a := (shift s.a s.c).r }.putShift (shift s.a s.c)

/-- ASL A (&0A; R151, R85). -/
def execAslAcc (s : State) : Result := implied (State.shiftA aslOut) s

/-- ASL zp (&06; R151, R87). -/
def execAslZp (z : Byte) (s : State) : Result :=
  modifying (.zp z) (fun t v => (aslOut v t.c).r) (fun v t => t.putShift (aslOut v t.c)) s

/-- ASL zp,X (&16; R151, R88). -/
def execAslZpx (z : Byte) (s : State) : Result :=
  modifying (.zpx z) (fun t v => (aslOut v t.c).r) (fun v t => t.putShift (aslOut v t.c)) s

/-- ASL abs (&0E; R151, R90). -/
def execAslAbs (addr : Addr) (s : State) : Result :=
  modifying (.abs addr) (fun t v => (aslOut v t.c).r) (fun v t => t.putShift (aslOut v t.c)) s

/-- ASL abs,X (&1E; R151, R91). -/
def execAslAbx (addr : Addr) (s : State) : Result :=
  modifying (.abx addr) (fun t v => (aslOut v t.c).r) (fun v t => t.putShift (aslOut v t.c)) s

/-- LSR A (&4A; R152, R85). -/
def execLsrAcc (s : State) : Result := implied (State.shiftA lsrOut) s

/-- LSR zp (&46; R152, R87). -/
def execLsrZp (z : Byte) (s : State) : Result :=
  modifying (.zp z) (fun t v => (lsrOut v t.c).r) (fun v t => t.putShift (lsrOut v t.c)) s

/-- LSR zp,X (&56; R152, R88). -/
def execLsrZpx (z : Byte) (s : State) : Result :=
  modifying (.zpx z) (fun t v => (lsrOut v t.c).r) (fun v t => t.putShift (lsrOut v t.c)) s

/-- LSR abs (&4E; R152, R90). -/
def execLsrAbs (addr : Addr) (s : State) : Result :=
  modifying (.abs addr) (fun t v => (lsrOut v t.c).r) (fun v t => t.putShift (lsrOut v t.c)) s

/-- LSR abs,X (&5E; R152, R91). -/
def execLsrAbx (addr : Addr) (s : State) : Result :=
  modifying (.abx addr) (fun t v => (lsrOut v t.c).r) (fun v t => t.putShift (lsrOut v t.c)) s

/-- ROL A (&2A; R153, R85). -/
def execRolAcc (s : State) : Result := implied (State.shiftA rolOut) s

/-- ROL zp (&26; R153, R87). -/
def execRolZp (z : Byte) (s : State) : Result :=
  modifying (.zp z) (fun t v => (rolOut v t.c).r) (fun v t => t.putShift (rolOut v t.c)) s

/-- ROL zp,X (&36; R153, R88). -/
def execRolZpx (z : Byte) (s : State) : Result :=
  modifying (.zpx z) (fun t v => (rolOut v t.c).r) (fun v t => t.putShift (rolOut v t.c)) s

/-- ROL abs (&2E; R153, R90). -/
def execRolAbs (addr : Addr) (s : State) : Result :=
  modifying (.abs addr) (fun t v => (rolOut v t.c).r) (fun v t => t.putShift (rolOut v t.c)) s

/-- ROL abs,X (&3E; R153, R91). -/
def execRolAbx (addr : Addr) (s : State) : Result :=
  modifying (.abx addr) (fun t v => (rolOut v t.c).r) (fun v t => t.putShift (rolOut v t.c)) s

/-- ROR A (&6A; R154, R85). -/
def execRorAcc (s : State) : Result := implied (State.shiftA rorOut) s

/-- ROR zp (&66; R154, R87). -/
def execRorZp (z : Byte) (s : State) : Result :=
  modifying (.zp z) (fun t v => (rorOut v t.c).r) (fun v t => t.putShift (rorOut v t.c)) s

/-- ROR zp,X (&76; R154, R88). -/
def execRorZpx (z : Byte) (s : State) : Result :=
  modifying (.zpx z) (fun t v => (rorOut v t.c).r) (fun v t => t.putShift (rorOut v t.c)) s

/-- ROR abs (&6E; R154, R90). -/
def execRorAbs (addr : Addr) (s : State) : Result :=
  modifying (.abs addr) (fun t v => (rorOut v t.c).r) (fun v t => t.putShift (rorOut v t.c)) s

/-- ROR abs,X (&7E; R154, R91). -/
def execRorAbx (addr : Addr) (s : State) : Result :=
  modifying (.abx addr) (fun t v => (rorOut v t.c).r) (fun v t => t.putShift (rorOut v t.c)) s

end Sys2Proof.Machine
end

