-- ==== Sys2Proof/Machine/StackTransfer.lean ====
section
/-! DEFINITION. Stack and register-transfer instructions (49_stack_transfer.md R230 to R239). -/

namespace Sys2Proof.Machine

/-- PHA (&48; R230). -/
def execPha (s : State) : Result :=
  let s1 := s.start 1#16
  s1.touching (s1.pc :: s1.pushAddrs 1) (s1.push s1.a)

/-- PHP (&08; R231). -/
def execPhp (s : State) : Result :=
  let s1 := s.start 1#16
  s1.touching (s1.pc :: s1.pushAddrs 1) (s1.push (s1.pByte true))

/-- PLA (&68; R232). -/
def execPla (s : State) : Result :=
  let s1 := s.start 1#16
  s1.touching (s1.pc :: s1.pullSpan 1) ({ s1.afterPull with a := s1.pulled }.setNZ s1.pulled)

/-- PLP (&28; R233). -/
def execPlp (s : State) : Result :=
  let s1 := s.start 1#16
  s1.touching (s1.pc :: s1.pullSpan 1) (s1.afterPull.setP s1.pulled)

/-- TAX (&AA; R234). -/
def execTax (s : State) : Result := implied (fun t => { t with x := t.a }.setNZ t.a) s

/-- TAY (&A8; R235). -/
def execTay (s : State) : Result := implied (fun t => { t with y := t.a }.setNZ t.a) s

/-- TYA (&98; R239). -/
def execTya (s : State) : Result := implied (fun t => { t with a := t.y }.setNZ t.y) s

/-- TSX (&BA; R236). -/
def execTsx (s : State) : Result := implied (fun t => { t with x := t.sp }.setNZ t.sp) s

/-- TXA (&8A; R237). -/
def execTxa (s : State) : Result := implied (fun t => { t with a := t.x }.setNZ t.x) s

/-- TXS (&9A; R238). -/
def execTxs (s : State) : Result := implied (fun t => { t with sp := t.x }) s

end Sys2Proof.Machine
end

