-- ==== Sys2Proof/Machine/System.lean ====
section
/-! DEFINITION. BRK, RTI and NOP (44_system.md R180 to R182). -/

namespace Sys2Proof.Machine

/-- BRK (&00; R180). The byte after it is read and discarded (20_memory.md R66). -/
def execBrk (s : State) : Result :=
  s.guarding [s.pc + 1#16] (interrupt irqVector true { s.start 1#16 with pc := s.pc + 2#16 })

/-- RTI (&40; R181). -/
def execRti (s : State) : Result := returnFromInterrupt (s.start 1#16)

/-- NOP (&EA; R182). -/
def execNop (s : State) : Result := implied (fun t => t) s

end Sys2Proof.Machine
end

