-- ==== Sys2Proof/Decode.lean ====
section
/-! DEFINITION. Decoding by the whole op-code byte (30_encoding.md R82), the operand fields of R83, and the
encoder, both from the table of R97. -/

namespace Sys2Proof

/-- Why bytes are no instruction. -/
inductive DecodeError
  /-- the op-code byte is not in R97 (R100) -/
  | unlistedOpcode (op : Byte)
  /-- the bytes end before the instruction does -/
  | truncated
  deriving DecidableEq, Repr

/-- `addr16`, the low byte first (R83, 20_memory.md R52). -/
def joinAddr (lo hi : Byte) : Addr := hi ++ lo

/-- The low byte of `addr16`, which stands in byte 1. -/
def addrLow (a : Addr) : Byte := a.extractLsb' 0 8

/-- The high byte of `addr16`, which stands in byte 2. -/
def addrHigh (a : Addr) : Byte := a.extractLsb' 8 8

/-- The instruction with op-code `op` whose operand bytes, as far as it has them, are `b1` and `b2`. -/
def decodeOp (op b1 b2 : Byte) : Option Instr :=
  match op.toNat with
  | 0x00 => some .brk
  | 0x01 => some (.oraIzx b1)
  | 0x05 => some (.oraZp b1)
  | 0x06 => some (.aslZp b1)
  | 0x08 => some .php
  | 0x09 => some (.oraImm b1)
  | 0x0A => some .aslAcc
  | 0x0D => some (.oraAbs (joinAddr b1 b2))
  | 0x0E => some (.aslAbs (joinAddr b1 b2))
  | 0x10 => some (.bpl b1)
  | 0x11 => some (.oraIzy b1)
  | 0x15 => some (.oraZpx b1)
  | 0x16 => some (.aslZpx b1)
  | 0x18 => some .clc
  | 0x19 => some (.oraAby (joinAddr b1 b2))
  | 0x1D => some (.oraAbx (joinAddr b1 b2))
  | 0x1E => some (.aslAbx (joinAddr b1 b2))
  | 0x20 => some (.jsr (joinAddr b1 b2))
  | 0x21 => some (.andIzx b1)
  | 0x24 => some (.bitZp b1)
  | 0x25 => some (.andZp b1)
  | 0x26 => some (.rolZp b1)
  | 0x28 => some .plp
  | 0x29 => some (.andImm b1)
  | 0x2A => some .rolAcc
  | 0x2C => some (.bitAbs (joinAddr b1 b2))
  | 0x2D => some (.andAbs (joinAddr b1 b2))
  | 0x2E => some (.rolAbs (joinAddr b1 b2))
  | 0x30 => some (.bmi b1)
  | 0x31 => some (.andIzy b1)
  | 0x35 => some (.andZpx b1)
  | 0x36 => some (.rolZpx b1)
  | 0x38 => some .sec
  | 0x39 => some (.andAby (joinAddr b1 b2))
  | 0x3D => some (.andAbx (joinAddr b1 b2))
  | 0x3E => some (.rolAbx (joinAddr b1 b2))
  | 0x40 => some .rti
  | 0x41 => some (.eorIzx b1)
  | 0x45 => some (.eorZp b1)
  | 0x46 => some (.lsrZp b1)
  | 0x48 => some .pha
  | 0x49 => some (.eorImm b1)
  | 0x4A => some .lsrAcc
  | 0x4C => some (.jmpAbs (joinAddr b1 b2))
  | 0x4D => some (.eorAbs (joinAddr b1 b2))
  | 0x4E => some (.lsrAbs (joinAddr b1 b2))
  | 0x50 => some (.bvc b1)
  | 0x51 => some (.eorIzy b1)
  | 0x55 => some (.eorZpx b1)
  | 0x56 => some (.lsrZpx b1)
  | 0x58 => some .cli
  | 0x59 => some (.eorAby (joinAddr b1 b2))
  | 0x5D => some (.eorAbx (joinAddr b1 b2))
  | 0x5E => some (.lsrAbx (joinAddr b1 b2))
  | 0x60 => some .rts
  | 0x61 => some (.adcIzx b1)
  | 0x65 => some (.adcZp b1)
  | 0x66 => some (.rorZp b1)
  | 0x68 => some .pla
  | 0x69 => some (.adcImm b1)
  | 0x6A => some .rorAcc
  | 0x6C => some (.jmpInd (joinAddr b1 b2))
  | 0x6D => some (.adcAbs (joinAddr b1 b2))
  | 0x6E => some (.rorAbs (joinAddr b1 b2))
  | 0x70 => some (.bvs b1)
  | 0x71 => some (.adcIzy b1)
  | 0x75 => some (.adcZpx b1)
  | 0x76 => some (.rorZpx b1)
  | 0x78 => some .sei
  | 0x79 => some (.adcAby (joinAddr b1 b2))
  | 0x7D => some (.adcAbx (joinAddr b1 b2))
  | 0x7E => some (.rorAbx (joinAddr b1 b2))
  | 0x81 => some (.staIzx b1)
  | 0x84 => some (.styZp b1)
  | 0x85 => some (.staZp b1)
  | 0x86 => some (.stxZp b1)
  | 0x88 => some .dey
  | 0x8A => some .txa
  | 0x8C => some (.styAbs (joinAddr b1 b2))
  | 0x8D => some (.staAbs (joinAddr b1 b2))
  | 0x8E => some (.stxAbs (joinAddr b1 b2))
  | 0x90 => some (.bcc b1)
  | 0x91 => some (.staIzy b1)
  | 0x94 => some (.styZpx b1)
  | 0x95 => some (.staZpx b1)
  | 0x96 => some (.stxZpy b1)
  | 0x98 => some .tya
  | 0x99 => some (.staAby (joinAddr b1 b2))
  | 0x9A => some .txs
  | 0x9D => some (.staAbx (joinAddr b1 b2))
  | 0xA0 => some (.ldyImm b1)
  | 0xA1 => some (.ldaIzx b1)
  | 0xA2 => some (.ldxImm b1)
  | 0xA4 => some (.ldyZp b1)
  | 0xA5 => some (.ldaZp b1)
  | 0xA6 => some (.ldxZp b1)
  | 0xA8 => some .tay
  | 0xA9 => some (.ldaImm b1)
  | 0xAA => some .tax
  | 0xAC => some (.ldyAbs (joinAddr b1 b2))
  | 0xAD => some (.ldaAbs (joinAddr b1 b2))
  | 0xAE => some (.ldxAbs (joinAddr b1 b2))
  | 0xB0 => some (.bcs b1)
  | 0xB1 => some (.ldaIzy b1)
  | 0xB4 => some (.ldyZpx b1)
  | 0xB5 => some (.ldaZpx b1)
  | 0xB6 => some (.ldxZpy b1)
  | 0xB8 => some .clv
  | 0xB9 => some (.ldaAby (joinAddr b1 b2))
  | 0xBA => some .tsx
  | 0xBC => some (.ldyAbx (joinAddr b1 b2))
  | 0xBD => some (.ldaAbx (joinAddr b1 b2))
  | 0xBE => some (.ldxAby (joinAddr b1 b2))
  | 0xC0 => some (.cpyImm b1)
  | 0xC1 => some (.cmpIzx b1)
  | 0xC4 => some (.cpyZp b1)
  | 0xC5 => some (.cmpZp b1)
  | 0xC6 => some (.decZp b1)
  | 0xC8 => some .iny
  | 0xC9 => some (.cmpImm b1)
  | 0xCA => some .dex
  | 0xCC => some (.cpyAbs (joinAddr b1 b2))
  | 0xCD => some (.cmpAbs (joinAddr b1 b2))
  | 0xCE => some (.decAbs (joinAddr b1 b2))
  | 0xD0 => some (.bne b1)
  | 0xD1 => some (.cmpIzy b1)
  | 0xD5 => some (.cmpZpx b1)
  | 0xD6 => some (.decZpx b1)
  | 0xD8 => some .cld
  | 0xD9 => some (.cmpAby (joinAddr b1 b2))
  | 0xDD => some (.cmpAbx (joinAddr b1 b2))
  | 0xDE => some (.decAbx (joinAddr b1 b2))
  | 0xE0 => some (.cpxImm b1)
  | 0xE1 => some (.sbcIzx b1)
  | 0xE4 => some (.cpxZp b1)
  | 0xE5 => some (.sbcZp b1)
  | 0xE6 => some (.incZp b1)
  | 0xE8 => some .inx
  | 0xE9 => some (.sbcImm b1)
  | 0xEA => some .nop
  | 0xEC => some (.cpxAbs (joinAddr b1 b2))
  | 0xED => some (.sbcAbs (joinAddr b1 b2))
  | 0xEE => some (.incAbs (joinAddr b1 b2))
  | 0xF0 => some (.beq b1)
  | 0xF1 => some (.sbcIzy b1)
  | 0xF5 => some (.sbcZpx b1)
  | 0xF6 => some (.incZpx b1)
  | 0xF8 => some .sed
  | 0xF9 => some (.sbcAby (joinAddr b1 b2))
  | 0xFD => some (.sbcAbx (joinAddr b1 b2))
  | 0xFE => some (.incAbx (joinAddr b1 b2))
  | _ => none

/-- The bytes of an instruction (R97). -/
def encode : Instr → List Byte
  | .adcImm v => [0x69#8, v]
  | .adcZp z => [0x65#8, z]
  | .adcZpx z => [0x75#8, z]
  | .adcAbs addr => [0x6D#8, addrLow addr, addrHigh addr]
  | .adcAbx addr => [0x7D#8, addrLow addr, addrHigh addr]
  | .adcAby addr => [0x79#8, addrLow addr, addrHigh addr]
  | .adcIzx z => [0x61#8, z]
  | .adcIzy z => [0x71#8, z]
  | .andImm v => [0x29#8, v]
  | .andZp z => [0x25#8, z]
  | .andZpx z => [0x35#8, z]
  | .andAbs addr => [0x2D#8, addrLow addr, addrHigh addr]
  | .andAbx addr => [0x3D#8, addrLow addr, addrHigh addr]
  | .andAby addr => [0x39#8, addrLow addr, addrHigh addr]
  | .andIzx z => [0x21#8, z]
  | .andIzy z => [0x31#8, z]
  | .aslAcc => [0x0A#8]
  | .aslZp z => [0x06#8, z]
  | .aslZpx z => [0x16#8, z]
  | .aslAbs addr => [0x0E#8, addrLow addr, addrHigh addr]
  | .aslAbx addr => [0x1E#8, addrLow addr, addrHigh addr]
  | .bcc rel => [0x90#8, rel]
  | .bcs rel => [0xB0#8, rel]
  | .beq rel => [0xF0#8, rel]
  | .bitZp z => [0x24#8, z]
  | .bitAbs addr => [0x2C#8, addrLow addr, addrHigh addr]
  | .bmi rel => [0x30#8, rel]
  | .bne rel => [0xD0#8, rel]
  | .bpl rel => [0x10#8, rel]
  | .brk => [0x00#8]
  | .bvc rel => [0x50#8, rel]
  | .bvs rel => [0x70#8, rel]
  | .clc => [0x18#8]
  | .cld => [0xD8#8]
  | .cli => [0x58#8]
  | .clv => [0xB8#8]
  | .cmpImm v => [0xC9#8, v]
  | .cmpZp z => [0xC5#8, z]
  | .cmpZpx z => [0xD5#8, z]
  | .cmpAbs addr => [0xCD#8, addrLow addr, addrHigh addr]
  | .cmpAbx addr => [0xDD#8, addrLow addr, addrHigh addr]
  | .cmpAby addr => [0xD9#8, addrLow addr, addrHigh addr]
  | .cmpIzx z => [0xC1#8, z]
  | .cmpIzy z => [0xD1#8, z]
  | .cpxImm v => [0xE0#8, v]
  | .cpxZp z => [0xE4#8, z]
  | .cpxAbs addr => [0xEC#8, addrLow addr, addrHigh addr]
  | .cpyImm v => [0xC0#8, v]
  | .cpyZp z => [0xC4#8, z]
  | .cpyAbs addr => [0xCC#8, addrLow addr, addrHigh addr]
  | .decZp z => [0xC6#8, z]
  | .decZpx z => [0xD6#8, z]
  | .decAbs addr => [0xCE#8, addrLow addr, addrHigh addr]
  | .decAbx addr => [0xDE#8, addrLow addr, addrHigh addr]
  | .dex => [0xCA#8]
  | .dey => [0x88#8]
  | .eorImm v => [0x49#8, v]
  | .eorZp z => [0x45#8, z]
  | .eorZpx z => [0x55#8, z]
  | .eorAbs addr => [0x4D#8, addrLow addr, addrHigh addr]
  | .eorAbx addr => [0x5D#8, addrLow addr, addrHigh addr]
  | .eorAby addr => [0x59#8, addrLow addr, addrHigh addr]
  | .eorIzx z => [0x41#8, z]
  | .eorIzy z => [0x51#8, z]
  | .incZp z => [0xE6#8, z]
  | .incZpx z => [0xF6#8, z]
  | .incAbs addr => [0xEE#8, addrLow addr, addrHigh addr]
  | .incAbx addr => [0xFE#8, addrLow addr, addrHigh addr]
  | .inx => [0xE8#8]
  | .iny => [0xC8#8]
  | .jmpAbs addr => [0x4C#8, addrLow addr, addrHigh addr]
  | .jmpInd addr => [0x6C#8, addrLow addr, addrHigh addr]
  | .jsr addr => [0x20#8, addrLow addr, addrHigh addr]
  | .ldaImm v => [0xA9#8, v]
  | .ldaZp z => [0xA5#8, z]
  | .ldaZpx z => [0xB5#8, z]
  | .ldaAbs addr => [0xAD#8, addrLow addr, addrHigh addr]
  | .ldaAbx addr => [0xBD#8, addrLow addr, addrHigh addr]
  | .ldaAby addr => [0xB9#8, addrLow addr, addrHigh addr]
  | .ldaIzx z => [0xA1#8, z]
  | .ldaIzy z => [0xB1#8, z]
  | .ldxImm v => [0xA2#8, v]
  | .ldxZp z => [0xA6#8, z]
  | .ldxZpy z => [0xB6#8, z]
  | .ldxAbs addr => [0xAE#8, addrLow addr, addrHigh addr]
  | .ldxAby addr => [0xBE#8, addrLow addr, addrHigh addr]
  | .ldyImm v => [0xA0#8, v]
  | .ldyZp z => [0xA4#8, z]
  | .ldyZpx z => [0xB4#8, z]
  | .ldyAbs addr => [0xAC#8, addrLow addr, addrHigh addr]
  | .ldyAbx addr => [0xBC#8, addrLow addr, addrHigh addr]
  | .lsrAcc => [0x4A#8]
  | .lsrZp z => [0x46#8, z]
  | .lsrZpx z => [0x56#8, z]
  | .lsrAbs addr => [0x4E#8, addrLow addr, addrHigh addr]
  | .lsrAbx addr => [0x5E#8, addrLow addr, addrHigh addr]
  | .nop => [0xEA#8]
  | .oraImm v => [0x09#8, v]
  | .oraZp z => [0x05#8, z]
  | .oraZpx z => [0x15#8, z]
  | .oraAbs addr => [0x0D#8, addrLow addr, addrHigh addr]
  | .oraAbx addr => [0x1D#8, addrLow addr, addrHigh addr]
  | .oraAby addr => [0x19#8, addrLow addr, addrHigh addr]
  | .oraIzx z => [0x01#8, z]
  | .oraIzy z => [0x11#8, z]
  | .pha => [0x48#8]
  | .php => [0x08#8]
  | .pla => [0x68#8]
  | .plp => [0x28#8]
  | .rolAcc => [0x2A#8]
  | .rolZp z => [0x26#8, z]
  | .rolZpx z => [0x36#8, z]
  | .rolAbs addr => [0x2E#8, addrLow addr, addrHigh addr]
  | .rolAbx addr => [0x3E#8, addrLow addr, addrHigh addr]
  | .rorAcc => [0x6A#8]
  | .rorZp z => [0x66#8, z]
  | .rorZpx z => [0x76#8, z]
  | .rorAbs addr => [0x6E#8, addrLow addr, addrHigh addr]
  | .rorAbx addr => [0x7E#8, addrLow addr, addrHigh addr]
  | .rti => [0x40#8]
  | .rts => [0x60#8]
  | .sbcImm v => [0xE9#8, v]
  | .sbcZp z => [0xE5#8, z]
  | .sbcZpx z => [0xF5#8, z]
  | .sbcAbs addr => [0xED#8, addrLow addr, addrHigh addr]
  | .sbcAbx addr => [0xFD#8, addrLow addr, addrHigh addr]
  | .sbcAby addr => [0xF9#8, addrLow addr, addrHigh addr]
  | .sbcIzx z => [0xE1#8, z]
  | .sbcIzy z => [0xF1#8, z]
  | .sec => [0x38#8]
  | .sed => [0xF8#8]
  | .sei => [0x78#8]
  | .staZp z => [0x85#8, z]
  | .staZpx z => [0x95#8, z]
  | .staAbs addr => [0x8D#8, addrLow addr, addrHigh addr]
  | .staAbx addr => [0x9D#8, addrLow addr, addrHigh addr]
  | .staAby addr => [0x99#8, addrLow addr, addrHigh addr]
  | .staIzx z => [0x81#8, z]
  | .staIzy z => [0x91#8, z]
  | .stxZp z => [0x86#8, z]
  | .stxZpy z => [0x96#8, z]
  | .stxAbs addr => [0x8E#8, addrLow addr, addrHigh addr]
  | .styZp z => [0x84#8, z]
  | .styZpx z => [0x94#8, z]
  | .styAbs addr => [0x8C#8, addrLow addr, addrHigh addr]
  | .tax => [0xAA#8]
  | .tay => [0xA8#8]
  | .tya => [0x98#8]
  | .tsx => [0xBA#8]
  | .txa => [0x8A#8]
  | .txs => [0x9A#8]

/-- The op-code byte of an instruction. -/
def Instr.opcode (i : Instr) : Byte := (encode i).headD 0x00#8

/-- How many bytes an instruction has (R80). -/
def Instr.length (i : Instr) : Nat := (encode i).length

/-- The length of the instruction that the op-code byte `op` selects (R80, R82); `none` for an unlisted
byte. -/
def opcodeLength (op : Byte) : Option Nat := (decodeOp op 0x00#8 0x00#8).map Instr.length

/-- The instruction at the head of some bytes, and the bytes after it. -/
def decode : List Byte → Except DecodeError (Instr × List Byte)
  | [] => .error .truncated
  | op :: rest =>
    match decodeOp op (rest.getD 0 0x00#8) (rest.getD 1 0x00#8) with
    | none => .error (.unlistedOpcode op)
    | some i =>
      if rest.length + 1 < i.length then .error .truncated else .ok (i, rest.drop (i.length - 1))

/-- The three bytes that hold an instruction whose bits are `w`, as opcode_table.json numbers them: bit 0 is
bit 0 of the first byte. Bits from `nbits` on are 0. -/
def tableBytes (nbits w : Nat) : List Byte :=
  let u := w % 2 ^ nbits
  [BitVec.ofNat 8 u, BitVec.ofNat 8 (u / 256), BitVec.ofNat 8 (u / 65536)]

/-- The instruction the decoder reads from a table word. -/
def decodeTableWord (nbits w : Nat) : Option Instr :=
  match decode (tableBytes nbits w) with
  | .ok (i, _) => some i
  | .error _ => none

end Sys2Proof
end

