-- ==== Sys2Proof/Machine/Fetch.lean ====
section
/-! DEFINITION. Fetching an instruction (00_scope.md R11, 30_encoding.md R82, R83), and placing one where the
next fetch finds it. -/

namespace Sys2Proof.Machine

/-- The addresses of the operand bytes of an instruction of `len` bytes at `pc`, modulo 65,536 (R83). -/
def operandAddrs (pc : Addr) (len : Nat) : List Addr :=
  (List.range (len - 1)).map fun k => pc + BitVec.ofNat 16 (k + 1)

/-- The op-code at PC, then as many operand bytes as it has; refused where a byte is a device's (R57) or the
op-code is unlisted (R100). PC is not moved yet. -/
def fetch (s : State) : Host.Outcome (Instr × State) Fault Refusal :=
  match s.blocked [s.pc] with
  | some a => .refused (.deviceAccess a)
  | none =>
    let op := s.peek s.pc
    let s1 := s.afterRead s.pc
    match opcodeLength op with
    | none => .refused (.unlistedOpcode op)
    | some len =>
      let rest := operandAddrs s.pc len
      match s1.blocked rest with
      | some a => .refused (.deviceAccess a)
      | none =>
        match decode (op :: s1.peeks rest) with
        | .ok (i, _) => .next (i, s1.afterReads rest)
        | .error _ => .refused (.unlistedOpcode op)

/-- A map under which address `k` holds what is stored there: unchanged where it does already. -/
def readableAt (map : List Region) (k : Nat) : List Region :=
  match kindIn map k with
  | .ram | .rom => map
  | .device | .unmapped => { base := k, size := 1, kind := .ram } :: map

/-- The coming samples with nothing signalled at the next boundary. -/
def quietFirst : List Signals → List Signals
  | [] => []
  | _ :: rest => Signals.quiet :: rest

/-- `s` with the bytes `bs` stored from `a` on, at addresses that can be fetched from. -/
def State.place (s : State) (a : Addr) : List Byte → State
  | [] => s
  | b :: bs =>
    State.place
      { s with
        mem := Memory.write s.mem a.toNat b
        platform := { s.platform with memMap := readableAt s.platform.memMap a.toNat } }
      (a + 1#16) bs

/-- `s` about to run the instruction whose bytes are `bs`: the bytes at PC, and no interrupt before them. -/
def State.about (s : State) (bs : List Byte) : State :=
  State.place { s with nmiPending := false, inputs := quietFirst s.inputs } s.pc bs

end Sys2Proof.Machine
end

