-- ==== Sys2Proof/Machine/Step.lean ====
section
/-! DEFINITION. One step: the boundary, then, if no event is taken, one instruction (00_scope.md R11). -/

namespace Sys2Proof.Machine

def step (s : State) : Host.Outcome State Fault Refusal :=
  match boundary s with
  | .taken r => r
  | .execute s1 =>
    match fetch s1 with
    | .next (i, s2) => exec i s2
    | .fault f => .fault f
    | .refused r => .refused r

/-- `s` with the instruction of a table word at PC, which the very next step runs. -/
def State.withFetchWord (s : State) (nbits w : Nat) : State := s.about (tableBytes nbits w)

end Sys2Proof.Machine
end

