-- ==== Sys2Proof/Safety.lean ====
section
/-! DEFINITION. The terms claims use: what a run is, what a platform without devices is, how a run starts
and ends (00_scope.md R5, 92_eei_decisions.md D23), and the invariant of the machine. -/

namespace Sys2Proof.Machine

/-- No address is a device's. -/
def State.deviceFree (s : State) : Prop := ∀ a : Addr, s.kindAt a ≠ .device

/-- None of the addresses is a device's. -/
def State.clear (s : State) (as : List Addr) : Prop := ∀ a ∈ as, s.kindAt a ≠ .device

/-- `t` follows from `s` in some number of steps. -/
inductive Reaches (s : State) : State → Prop
  | refl : Reaches s s
  | tail {t u : State} : Reaches s t → step t = .next u → Reaches s u

/-- `Launch` (D23): a run starts after a reset of some powered-on state, or in a state given outright. -/
inductive Launch
  | afterReset (poweredOn : State)
  | explicit (s : State)

/-- The state, if there is one, in which a run starts. -/
def Launch.start : Launch → Result
  | .afterReset s => resetSequence s
  | .explicit s => .next s

/-- `EndOfRun` (D23, 47_jump.md R210): PC is at a JMP to its own address, held in ram or rom. -/
def State.atSelfJump (s : State) : Bool :=
  [s.pc, s.pc + 1#16, s.pc + 2#16].all (fun a => s.kindAt a == .ram || s.kindAt a == .rom) &&
    ((s.peeks [s.pc, s.pc + 1#16, s.pc + 2#16]) == encode (.jmpAbs s.pc))

/-- The environment signals nothing at the next boundary and nothing is pending. -/
def State.quiet (s : State) : Prop := s.signals = Signals.quiet ∧ s.nmiPending = false

/-- The invariant: memory is in its canonical form, inside the 65,536 addresses. -/
def State.Inv (s : State) : Prop := s.mem.wf = true

end Sys2Proof.Machine
end

