-- ==== Sys2Proof/WellFormed.lean ====
section
/-! DEFINITION. Which written instructions exist: the forms of 30_encoding.md R105 and R106, and the size of
each operand. Every `Instr` is well-formed, because its type already holds exactly the forms of R97 and no
operand value is reserved (R100); the checks refuse what an assembler must reject. -/

namespace Sys2Proof

/-- The instructions that have each mode: the "Used by" lists of R84 to R96. -/
def Mode.usedBy : Mode → List Mnemonic
  | .IMP => [.BRK, .CLC, .CLD, .CLI, .CLV, .DEX, .DEY, .INX, .INY, .NOP, .PHA, .PHP, .PLA, .PLP, .RTI, .RTS,
      .SEC, .SED, .SEI, .TAX, .TAY, .TSX, .TXA, .TXS, .TYA]
  | .ACC => [.ASL, .LSR, .ROL, .ROR]
  | .IMM => [.ADC, .AND, .CMP, .CPX, .CPY, .EOR, .LDA, .LDX, .LDY, .ORA, .SBC]
  | .ZP => [.ADC, .AND, .ASL, .BIT, .CMP, .CPX, .CPY, .DEC, .EOR, .INC, .LDA, .LDX, .LDY, .LSR, .ORA, .ROL,
      .ROR, .SBC, .STA, .STX, .STY]
  | .ZPX => [.ADC, .AND, .ASL, .CMP, .DEC, .EOR, .INC, .LDA, .LDY, .LSR, .ORA, .ROL, .ROR, .SBC, .STA, .STY]
  | .ZPY => [.LDX, .STX]
  | .ABS => [.ADC, .AND, .ASL, .BIT, .CMP, .CPX, .CPY, .DEC, .EOR, .INC, .JMP, .JSR, .LDA, .LDX, .LDY, .LSR,
      .ORA, .ROL, .ROR, .SBC, .STA, .STX, .STY]
  | .ABX => [.ADC, .AND, .ASL, .CMP, .DEC, .EOR, .INC, .LDA, .LDY, .LSR, .ORA, .ROL, .ROR, .SBC, .STA]
  | .ABY => [.ADC, .AND, .CMP, .EOR, .LDA, .LDX, .ORA, .SBC, .STA]
  | .IZX => [.ADC, .AND, .CMP, .EOR, .LDA, .ORA, .SBC, .STA]
  | .IZY => [.ADC, .AND, .CMP, .EOR, .LDA, .ORA, .SBC, .STA]
  | .IND => [.JMP]
  | .REL => [.BCC, .BCS, .BEQ, .BMI, .BNE, .BPL, .BVC, .BVS]

/-- How many values an operand of the mode has: `imm8`, `zp8` and `rel8` are one byte, `addr16` two
(R81, R83). -/
def Mode.operandValues : Mode → Nat
  | .IMP | .ACC => 1
  | .IMM | .ZP | .ZPX | .ZPY | .IZX | .IZY | .REL => 256
  | .ABS | .ABX | .ABY | .IND => 65536

/-- An instruction as it is written (R102), before it is known to exist: `value` is the operand's value,
0 where the mode has none. -/
structure Written where
  mnemonic : Mnemonic
  mode : Mode
  value : Nat
  deriving DecidableEq, Repr

/-- The instruction has the mode (R105). -/
def Written.formExists (w : Written) : Bool := w.mode.usedBy.contains w.mnemonic

/-- The operand's value fits its bytes (R83). -/
def Written.operandFits (w : Written) : Bool := decide (w.value < w.mode.operandValues)

def Written.wellFormed (w : Written) : Bool := w.formExists && w.operandFits

def MemMode.value : MemMode → Nat
  | .zp z | .zpx z | .zpy z | .izx z | .izy z => z.toNat
  | .abs a | .abx a | .aby a => a.toNat

def Operand.value : Operand → Nat
  | .imp | .acc => 0
  | .imm v => v.toNat
  | .mem m => m.value
  | .ind a => a.toNat
  | .rel r => r.toNat

/-- How an instruction is written. -/
def Instr.written (i : Instr) : Written :=
  { mnemonic := i.mnemonic, mode := i.mode, value := i.operand.value }

def Instr.wellFormed (i : Instr) : Bool := i.written.wellFormed

end Sys2Proof
end

