-- ==== Sys2Proof/Certificates/Slice0/Obligations.lean ====
section
/-! DEFINITION. What is claimed of the machine, for the provers: one `def Obligations.<Name> : Prop` each,
after the words they are stated in (`Sys2Proof.Spec`). R<n> are the rules of spec/. -/

namespace Sys2Proof.Spec

open Sys2Proof.Machine

/-! ## The words -/

/-- The op-code map of R97: the modes and op-codes of each mnemonic. -/
def opcodeRows : Mnemonic → List (Mode × Byte)
  | .ADC => [(.IMM, 0x69#8), (.ZP, 0x65#8), (.ZPX, 0x75#8), (.ABS, 0x6D#8), (.ABX, 0x7D#8),
      (.ABY, 0x79#8), (.IZX, 0x61#8), (.IZY, 0x71#8)]
  | .AND => [(.IMM, 0x29#8), (.ZP, 0x25#8), (.ZPX, 0x35#8), (.ABS, 0x2D#8), (.ABX, 0x3D#8),
      (.ABY, 0x39#8), (.IZX, 0x21#8), (.IZY, 0x31#8)]
  | .ASL => [(.ACC, 0x0A#8), (.ZP, 0x06#8), (.ZPX, 0x16#8), (.ABS, 0x0E#8), (.ABX, 0x1E#8)]
  | .BCC => [(.REL, 0x90#8)]
  | .BCS => [(.REL, 0xB0#8)]
  | .BEQ => [(.REL, 0xF0#8)]
  | .BIT => [(.ZP, 0x24#8), (.ABS, 0x2C#8)]
  | .BMI => [(.REL, 0x30#8)]
  | .BNE => [(.REL, 0xD0#8)]
  | .BPL => [(.REL, 0x10#8)]
  | .BRK => [(.IMP, 0x00#8)]
  | .BVC => [(.REL, 0x50#8)]
  | .BVS => [(.REL, 0x70#8)]
  | .CLC => [(.IMP, 0x18#8)]
  | .CLD => [(.IMP, 0xD8#8)]
  | .CLI => [(.IMP, 0x58#8)]
  | .CLV => [(.IMP, 0xB8#8)]
  | .CMP => [(.IMM, 0xC9#8), (.ZP, 0xC5#8), (.ZPX, 0xD5#8), (.ABS, 0xCD#8), (.ABX, 0xDD#8),
      (.ABY, 0xD9#8), (.IZX, 0xC1#8), (.IZY, 0xD1#8)]
  | .CPX => [(.IMM, 0xE0#8), (.ZP, 0xE4#8), (.ABS, 0xEC#8)]
  | .CPY => [(.IMM, 0xC0#8), (.ZP, 0xC4#8), (.ABS, 0xCC#8)]
  | .DEC => [(.ZP, 0xC6#8), (.ZPX, 0xD6#8), (.ABS, 0xCE#8), (.ABX, 0xDE#8)]
  | .DEX => [(.IMP, 0xCA#8)]
  | .DEY => [(.IMP, 0x88#8)]
  | .EOR => [(.IMM, 0x49#8), (.ZP, 0x45#8), (.ZPX, 0x55#8), (.ABS, 0x4D#8), (.ABX, 0x5D#8),
      (.ABY, 0x59#8), (.IZX, 0x41#8), (.IZY, 0x51#8)]
  | .INC => [(.ZP, 0xE6#8), (.ZPX, 0xF6#8), (.ABS, 0xEE#8), (.ABX, 0xFE#8)]
  | .INX => [(.IMP, 0xE8#8)]
  | .INY => [(.IMP, 0xC8#8)]
  | .JMP => [(.ABS, 0x4C#8), (.IND, 0x6C#8)]
  | .JSR => [(.ABS, 0x20#8)]
  | .LDA => [(.IMM, 0xA9#8), (.ZP, 0xA5#8), (.ZPX, 0xB5#8), (.ABS, 0xAD#8), (.ABX, 0xBD#8),
      (.ABY, 0xB9#8), (.IZX, 0xA1#8), (.IZY, 0xB1#8)]
  | .LDX => [(.IMM, 0xA2#8), (.ZP, 0xA6#8), (.ZPY, 0xB6#8), (.ABS, 0xAE#8), (.ABY, 0xBE#8)]
  | .LDY => [(.IMM, 0xA0#8), (.ZP, 0xA4#8), (.ZPX, 0xB4#8), (.ABS, 0xAC#8), (.ABX, 0xBC#8)]
  | .LSR => [(.ACC, 0x4A#8), (.ZP, 0x46#8), (.ZPX, 0x56#8), (.ABS, 0x4E#8), (.ABX, 0x5E#8)]
  | .NOP => [(.IMP, 0xEA#8)]
  | .ORA => [(.IMM, 0x09#8), (.ZP, 0x05#8), (.ZPX, 0x15#8), (.ABS, 0x0D#8), (.ABX, 0x1D#8),
      (.ABY, 0x19#8), (.IZX, 0x01#8), (.IZY, 0x11#8)]
  | .PHA => [(.IMP, 0x48#8)]
  | .PHP => [(.IMP, 0x08#8)]
  | .PLA => [(.IMP, 0x68#8)]
  | .PLP => [(.IMP, 0x28#8)]
  | .ROL => [(.ACC, 0x2A#8), (.ZP, 0x26#8), (.ZPX, 0x36#8), (.ABS, 0x2E#8), (.ABX, 0x3E#8)]
  | .ROR => [(.ACC, 0x6A#8), (.ZP, 0x66#8), (.ZPX, 0x76#8), (.ABS, 0x6E#8), (.ABX, 0x7E#8)]
  | .RTI => [(.IMP, 0x40#8)]
  | .RTS => [(.IMP, 0x60#8)]
  | .SBC => [(.IMM, 0xE9#8), (.ZP, 0xE5#8), (.ZPX, 0xF5#8), (.ABS, 0xED#8), (.ABX, 0xFD#8),
      (.ABY, 0xF9#8), (.IZX, 0xE1#8), (.IZY, 0xF1#8)]
  | .SEC => [(.IMP, 0x38#8)]
  | .SED => [(.IMP, 0xF8#8)]
  | .SEI => [(.IMP, 0x78#8)]
  | .STA => [(.ZP, 0x85#8), (.ZPX, 0x95#8), (.ABS, 0x8D#8), (.ABX, 0x9D#8), (.ABY, 0x99#8),
      (.IZX, 0x81#8), (.IZY, 0x91#8)]
  | .STX => [(.ZP, 0x86#8), (.ZPY, 0x96#8), (.ABS, 0x8E#8)]
  | .STY => [(.ZP, 0x84#8), (.ZPX, 0x94#8), (.ABS, 0x8C#8)]
  | .TAX => [(.IMP, 0xAA#8)]
  | .TAY => [(.IMP, 0xA8#8)]
  | .TYA => [(.IMP, 0x98#8)]
  | .TSX => [(.IMP, 0xBA#8)]
  | .TXA => [(.IMP, 0x8A#8)]
  | .TXS => [(.IMP, 0x9A#8)]

/-- The instructions named `mn` are exactly its rows of R97, one for each mode and op-code. -/
def EncodedAs (mn : Mnemonic) : Prop :=
  (∀ i : Instr, i.mnemonic = mn → (i.mode, i.opcode) ∈ opcodeRows mn) ∧
    ∀ row ∈ opcodeRows mn, ∃ i : Instr, i.mnemonic = mn ∧ i.mode = row.1 ∧ i.opcode = row.2

/-- The 105 bytes of R100. -/
def unlisted : List Byte :=
  [
    0x02#8, 0x03#8, 0x04#8, 0x07#8, 0x0B#8, 0x0C#8, 0x0F#8, 0x12#8, 0x13#8, 0x14#8, 0x17#8, 0x1A#8,
    0x1B#8, 0x1C#8, 0x1F#8, 0x22#8, 0x23#8, 0x27#8, 0x2B#8, 0x2F#8, 0x32#8, 0x33#8, 0x34#8, 0x37#8,
    0x3A#8, 0x3B#8, 0x3C#8, 0x3F#8, 0x42#8, 0x43#8, 0x44#8, 0x47#8, 0x4B#8, 0x4F#8, 0x52#8, 0x53#8,
    0x54#8, 0x57#8, 0x5A#8, 0x5B#8, 0x5C#8, 0x5F#8, 0x62#8, 0x63#8, 0x64#8, 0x67#8, 0x6B#8, 0x6F#8,
    0x72#8, 0x73#8, 0x74#8, 0x77#8, 0x7A#8, 0x7B#8, 0x7C#8, 0x7F#8, 0x80#8, 0x82#8, 0x83#8, 0x87#8,
    0x89#8, 0x8B#8, 0x8F#8, 0x92#8, 0x93#8, 0x97#8, 0x9B#8, 0x9C#8, 0x9E#8, 0x9F#8, 0xA3#8, 0xA7#8,
    0xAB#8, 0xAF#8, 0xB2#8, 0xB3#8, 0xB7#8, 0xBB#8, 0xBF#8, 0xC2#8, 0xC3#8, 0xC7#8, 0xCB#8, 0xCF#8,
    0xD2#8, 0xD3#8, 0xD4#8, 0xD7#8, 0xDA#8, 0xDB#8, 0xDC#8, 0xDF#8, 0xE2#8, 0xE3#8, 0xE7#8, 0xEB#8,
    0xEF#8, 0xF2#8, 0xF3#8, 0xF4#8, 0xF7#8, 0xFA#8, 0xFB#8, 0xFC#8, 0xFF#8
  ]

/-- The byte that the operand of `i` selects: the immediate byte, the byte at the effective address, or A. -/
def operand (i : Instr) (s : State) : Byte :=
  match i.operand with
  | .imm v => v
  | .mem m => s.value m
  | _ => s.a

/-- `s` past the instruction `i`, its operand read: PC, I_prev and the count of draws, nothing else. -/
def advanced (i : Instr) (s : State) : State :=
  { s with
    pc := s.pc + BitVec.ofNat 16 i.length
    iPrev := s.i
    draws := match i.operand with
      | .mem m => (s.afterValue m).draws
      | _ => s.draws }

/-- `s` past an instruction of `len` bytes that reads no memory. -/
def past (len : Nat) (s : State) : State := { s with pc := s.pc + BitVec.ofNat 16 len, iPrev := s.i }

/-- The byte stored at `k` once `writes` have been made to `s`, the first one the latest: a write counts at
a ram address only (R57). -/
def overlay (s : State) : List (Addr × Byte) → Nat → Byte
  | [], k => Memory.read s.mem k
  | w :: ws, k => if k = w.1.toNat ∧ s.kindAt w.1 = .ram then w.2 else overlay s ws k

/-- From `s` to `t` the bytes of memory change by `writes` and at no other address. -/
def Stores (s t : State) (writes : List (Addr × Byte)) : Prop :=
  ∀ k, Memory.read t.mem k = overlay s writes k

/-- `r` ends in a state that is `u` but for memory, and memory changes from `s` by `writes` alone. -/
def EndsIn (r : Result) (s u : State) (writes : List (Addr × Byte)) : Prop :=
  ∃ t, r = .next t ∧ { t with mem := s.mem } = { u with mem := s.mem } ∧ Stores s t writes

/-- The addresses of `k` bytes below and at the free stack location. -/
def freeSlots (s : State) (k : Nat) : List Addr :=
  (List.range k).map fun j => stackAddr (s.sp - BitVec.ofNat 8 j)

/-- The addresses of the `k` bytes on top of the stack. -/
def stackTop (s : State) (k : Nat) : List Addr :=
  (List.range k).map fun j => stackAddr (s.sp + BitVec.ofNat 8 (j + 1))

/-- The addresses for which a device refuses `i` (R57, R66, 93 U8): what its operand touches; the byte after a
one-byte instruction; the stack, from the free location on where it pulls; BRK's vector. Jumps and calls do
not touch their target. -/
def touched (i : Instr) (s : State) : List Addr :=
  match i.operand with
  | .imm _ | .rel _ => []
  | .acc => [s.pc + 1#16]
  | .ind addr => [addr, hiByte addr ++ (loByte addr + 1#8)]
  | .mem m =>
    match i.mnemonic with
    | .JMP => []
    | .JSR => freeSlots s 2
    | _ => s.touches m
  | .imp => (s.pc + 1#16) ::
    match i.mnemonic with
    | .PHA | .PHP => freeSlots s 1
    | .PLA | .PLP => stackAddr s.sp :: stackTop s 1
    | .RTS => stackAddr s.sp :: stackTop s 2
    | .RTI => stackAddr s.sp :: stackTop s 3
    | .BRK => freeSlots s 3 ++ [0xFFFE#16, 0xFFFF#16]
    | _ => []

/-- Nothing that `i` touches is a device's. -/
def Accessible (i : Instr) (s : State) : Prop := s.clear (touched i s)

/-- Every address of the list is ram. -/
def AllRam (s : State) (as : List Addr) : Prop := ∀ a ∈ as, s.kindAt a = .ram

/-- No address of the list is unmapped or a device's: what is stored there is what a read gives. -/
def AllStored (s : State) (as : List Addr) : Prop := ∀ a ∈ as, s.kindAt a = .ram ∨ s.kindAt a = .rom

/-- The value of a byte of two decimal digits. -/
def decimalValue (b : Byte) : Nat := 10 * (b.toNat / 16) + b.toNat % 16

/-- The state after an entry through `vector` from `s`, memory apart (R303). -/
def entered (s : State) (vector : Addr) : State :=
  { s with
    pc := s.peek16 vector
    sp := s.sp - 3#8
    i := true
    iPrev := true
    draws := (s.after16 vector).draws }

/-- The three bytes of an entry's frame (R303): PC high, PC low, the status byte. -/
def frame (s : State) (ret : Addr) (b : Bool) : List (Addr × Byte) :=
  [(stackAddr (s.sp - 2#8), s.pByte b), (stackAddr (s.sp - 1#8), loByte ret), (stackAddr s.sp, hiByte ret)]

/-- The addresses that an entry, and the reset sequence, touches: three of the stack, and the vector. -/
def entrySpace (s : State) (vector : Addr) : List Addr := freeSlots s 3 ++ [vector, vector + 1#16]

/-- One of the three vectors (R56). -/
def IsVector (v : Addr) : Prop := v = 0xFFFA#16 ∨ v = 0xFFFC#16 ∨ v = 0xFFFE#16

/-- What a boundary that executes does: the instruction at PC is fetched and executed. -/
def runs (s : State) : Result :=
  match fetch s with
  | .next p => exec p.1 p.2
  | .fault f => .fault f
  | .refused r => .refused r

/-- Which of N V D I Z C the mnemonic writes (R38). -/
structure FlagSet where
  n : Bool := false
  v : Bool := false
  d : Bool := false
  i : Bool := false
  z : Bool := false
  c : Bool := false

def flagsWritten : Mnemonic → FlagSet
  | .ADC | .SBC => { n := true, v := true, z := true, c := true }
  | .CMP | .CPX | .CPY | .ASL | .ROL | .ROR | .LSR => { n := true, z := true, c := true }
  | .AND | .EOR | .ORA | .LDA | .LDX | .LDY | .DEC | .DEX | .DEY | .INC | .INX | .INY | .PLA | .TAX | .TAY
  | .TSX | .TXA | .TYA => { n := true, z := true }
  | .BIT => { n := true, v := true, z := true }
  | .CLC | .SEC => { c := true }
  | .CLD | .SED => { d := true }
  | .CLI | .SEI | .BRK => { i := true }
  | .CLV => { v := true }
  | .PLP | .RTI => { n := true, v := true, d := true, i := true, z := true, c := true }
  | _ => {}

end Sys2Proof.Spec

open Sys2Proof Sys2Proof.Machine Sys2Proof.Spec

/-! ## Encoding -/

/-- Words written out from R97, one for each family and operand shape, decode to their instructions (the
model's decoder on a few fixed words: a sanity statement). -/
def Obligations.DecodesWrittenWords : Prop :=
  decode [0x69#8, 0x10#8] = .ok (.adcImm 0x10#8, []) ∧
  decode [0xB6#8, 0x10#8] = .ok (.ldxZpy 0x10#8, []) ∧
  decode [0xBC#8, 0x00#8, 0x30#8] = .ok (.ldyAbx 0x3000#16, []) ∧
  decode [0x2C#8, 0x34#8, 0x12#8] = .ok (.bitAbs 0x1234#16, []) ∧
  decode [0x0A#8] = .ok (.aslAcc, []) ∧
  decode [0xD0#8, 0xFB#8] = .ok (.bne 0xFB#8, []) ∧
  decode [0x00#8, 0xEA#8] = .ok (.brk, [0xEA#8]) ∧
  decode [0x78#8] = .ok (.sei, []) ∧
  decode [0xFE#8, 0xFF#8, 0x30#8] = .ok (.incAbx 0x30FF#16, []) ∧
  decode [0x6C#8, 0x00#8, 0x02#8] = .ok (.jmpInd 0x0200#16, []) ∧
  decode [0x91#8, 0x70#8] = .ok (.staIzy 0x70#8, []) ∧
  decode [0x9A#8] = .ok (.txs, [])

/-- Decoding and encoding agree in both directions, for every instruction, every operand value and every
string of bytes: what decodes to `i` with `rest` left over is `i`'s bytes followed by `rest`. -/
def Obligations.DecodeInvertsEncode : Prop :=
  ∀ (bytes : List Byte) (i : Instr) (rest : List Byte),
    decode bytes = .ok (i, rest) ↔ bytes = encode i ++ rest

/-- R97, R105: the instructions are exactly the rows of the op-code map, mnemonic by mnemonic, 151 of them,
no op-code stands twice, and each is as long as its mode says (R80, R81). -/
def Obligations.OpcodeMapIsTheTable : Prop :=
  (∀ mn : Mnemonic, EncodedAs mn) ∧
  (∀ i j : Instr, i.opcode = j.opcode → i.mnemonic = j.mnemonic ∧ i.mode = j.mode) ∧
  (∀ i : Instr, i.length = match i.mode with
    | .IMP | .ACC => 1
    | .IMM | .ZP | .ZPX | .ZPY | .IZX | .IZY | .REL => 2
    | .ABS | .ABX | .ABY | .IND => 3)

/-- R105, R106 and R84 to R96: a mode and a mnemonic go together exactly when the mode's list names the
mnemonic, and there every operand value is an instruction (R100: no reserved operand values). -/
def Obligations.FormsAreTheMatrix : Prop :=
  ∀ w : Written, w.wellFormed = true ↔ ∃ i : Instr, i.written = w

/-- R100: the op-code bytes that decode to nothing, whatever follows them, are the 105 unlisted ones, and
fetching one is refused by name. -/
def Obligations.UnlistedOpcodesAreRefused : Prop :=
  (∀ op b1 b2 : Byte, decodeOp op b1 b2 = none ↔ op ∈ unlisted) ∧
  ∀ s s1 : State, boundary s = .execute s1 → s1.kindAt s1.pc ≠ .device → s1.peek s1.pc ∈ unlisted →
    step s = .refused (.unlistedOpcode (s1.peek s1.pc))

/-- R11, R83: where the boundary executes and the bytes at PC, PC + 1, … (modulo 65,536) are those of `i`,
the step is `exec i` on the state with those bytes read; and a boundary at which nothing is signalled and no
NMI is pending executes. -/
def Obligations.StepRunsDecodedInstruction : Prop :=
  (∀ (s s1 : State) (i : Instr), boundary s = .execute s1 →
    s1.clear (s1.pc :: operandAddrs s1.pc i.length) →
    s1.peeks (s1.pc :: operandAddrs s1.pc i.length) = encode i →
      step s = exec i (s1.afterReads (s1.pc :: operandAddrs s1.pc i.length))) ∧
  ∀ s : State, s.quiet → boundary s = .execute s.sampled

/-- R66 (fetch), R57: where the boundary executes, a device at PC refuses the step, whatever byte is stored
there; and so does a device at an operand byte of the instruction whose op-code is at PC. -/
def Obligations.FetchFromDeviceIsRefused : Prop :=
  ∀ s s1 : State, boundary s = .execute s1 →
    (s1.kindAt s1.pc = .device → step s = .refused (.deviceAccess s1.pc)) ∧
    ∀ i : Instr, s1.kindAt s1.pc ≠ .device → s1.peek s1.pc = i.opcode →
      ¬ s1.clear (operandAddrs s1.pc i.length) →
        ∃ a ∈ operandAddrs s1.pc i.length, s1.kindAt a = .device ∧ step s = .refused (.deviceAccess a)

/-! ## Address modes -/

/-- R87 to R94 and R68: the effective address of each mode, `lo` and `hi` being the bytes that reads of the
pointer's two addresses give; the pointer of an indirect mode stays in page zero. -/
def Obligations.EffectiveAddresses : Prop :=
  ∀ (s : State) (z lo hi : Byte) (addr : Addr),
    s.ea (.zp z) = 0x00#8 ++ z ∧
    s.ea (.zpx z) = 0x00#8 ++ (z + s.x) ∧
    s.ea (.zpy z) = 0x00#8 ++ (z + s.y) ∧
    s.ea (.abs addr) = addr ∧
    s.ea (.abx addr) = addr + s.x.setWidth 16 ∧
    s.ea (.aby addr) = addr + s.y.setWidth 16 ∧
    (s.peeks [0x00#8 ++ (z + s.x), 0x00#8 ++ (z + s.x + 1#8)] = [lo, hi] → s.ea (.izx z) = hi ++ lo) ∧
    (s.peeks [0x00#8 ++ z, 0x00#8 ++ (z + 1#8)] = [lo, hi] →
      s.ea (.izy z) = (hi ++ lo) + s.y.setWidth 16)

/-- R57, R58: a read of a ram or rom address gives the stored byte and changes nothing, and so the operand of a
mode that names memory is the byte stored at its effective address, where its pointer and that address are
ram or rom. -/
def Obligations.OperandIsTheStoredByte : Prop :=
  (∀ (s : State) (as : List Addr), AllStored s as →
    s.peeks as = as.map (fun a => Memory.read s.mem a.toNat) ∧ s.afterReads as = s) ∧
  ∀ (s : State) (m : MemMode), AllStored s (s.pointerAddrs m ++ [s.ea m]) →
    s.value m = Memory.read s.mem (s.ea m).toNat ∧ s.afterValue m = s

/-! ## Arithmetic -/

/-- R121 and, with D = 1 under the NMOS `DecimalModel`, R126: ADC in its eight forms (adcImm, adcZp, adcZpx,
adcAbs, adcAbx, adcAby, adcIzx, adcIzy). -/
def Obligations.AddResult : Prop :=
  EncodedAs .ADC ∧
  ∀ (i : Instr) (s : State), i.mnemonic = .ADC → Accessible i s →
    let m := operand i s
    let sum := s.a.toNat + m.toNat + s.c.toNat
    let r := BitVec.ofNat 8 sum
    (s.d = false → exec i s = .next { advanced i s with
      a := r
      v := ((s.a ^^^ r) &&& (m ^^^ r)).msb
      c := decide (255 < sum)
      n := r.msb
      z := decide (r = 0#8) }) ∧
    (s.d = true → s.platform.decimal = .nmos →
      let al0 := s.a.toNat % 16 + m.toNat % 16 + s.c.toNat
      let al := if 0x0A ≤ al0 then (al0 + 0x06) % 16 + 0x10 else al0
      let t := s.a.toNat / 16 * 16 + m.toNat / 16 * 16 + al
      let u := if 0xA0 ≤ t then t + 0x60 else t
      exec i s = .next { advanced i s with
        a := BitVec.ofNat 8 u
        n := t.testBit 7
        v := ((s.a ^^^ BitVec.ofNat 8 t) &&& (m ^^^ BitVec.ofNat 8 t)).msb
        c := decide (0x100 ≤ u)
        z := decide (r = 0#8) })

/-- R122 and, with D = 1 under the NMOS `DecimalModel`, R127: SBC in its eight forms (sbcImm, sbcZp, sbcZpx,
sbcAbs, sbcAbx, sbcAby, sbcIzx, sbcIzy). -/
def Obligations.SubtractResult : Prop :=
  EncodedAs .SBC ∧
  ∀ (i : Instr) (s : State), i.mnemonic = .SBC → Accessible i s →
    let m := operand i s
    let sum := s.a.toNat + (m ^^^ 0xFF#8).toNat + s.c.toNat
    let r := BitVec.ofNat 8 sum
    (s.d = false → exec i s = .next { advanced i s with
      a := r
      v := ((s.a ^^^ m) &&& (s.a ^^^ r)).msb
      c := decide (255 < sum)
      n := r.msb
      z := decide (r = 0#8) }) ∧
    (s.d = true → s.platform.decimal = .nmos →
      let al0 : Int := (s.a.toNat % 16 : Nat) - (m.toNat % 16 : Nat) + s.c.toNat - 1
      let al := if al0 < 0 then (al0 - 0x06) % 16 - 0x10 else al0
      let t : Int := (s.a.toNat / 16 * 16 : Nat) - (m.toNat / 16 * 16 : Nat) + al
      exec i s = .next { advanced i s with
        a := BitVec.ofInt 8 (if t < 0 then t - 0x60 else t)
        v := ((s.a ^^^ m) &&& (s.a ^^^ r)).msb
        c := decide (255 < sum)
        n := r.msb
        z := decide (r = 0#8) })

/-- 40_arithmetic.md "Integer arithmetic laws": after a binary ADC or SBC the carry makes the sum exact, and V
says that the signed reading does not fit (R121, R122: "equivalently"). -/
def Obligations.BinaryArithmeticIsExact : Prop :=
  ∀ (i : Instr) (s t : State), s.d = false → exec i s = .next t →
    let m := operand i s
    (i.mnemonic = .ADC →
      256 * t.c.toNat + t.a.toNat = s.a.toNat + m.toNat + s.c.toNat ∧
      (t.v = true ↔ s.a.toInt + m.toInt + s.c.toNat < -128 ∨ 127 < s.a.toInt + m.toInt + s.c.toNat)) ∧
    (i.mnemonic = .SBC →
      (t.a.toNat : Int) - 256 * (1 - t.c.toNat) = s.a.toNat - m.toNat - (1 - s.c.toNat) ∧
      (t.v = true ↔
        s.a.toInt - m.toInt - (1 - s.c.toNat) < -128 ∨ 127 < s.a.toInt - m.toInt - (1 - s.c.toNat)))

/-- R126 and R127, corner cases: for operands of two decimal digits, ADC and SBC with D = 1 give the decimal
sum and difference modulo 100, with C the decimal carry and no-borrow. It holds for both readings of
`DecimalModel`. -/
def Obligations.DecimalArithmeticIsDecimal : Prop :=
  ∀ (i : Instr) (s t : State), s.d = true → exec i s = .next t →
    let m := operand i s
    validBcd s.a = true → validBcd m = true →
    (i.mnemonic = .ADC →
      validBcd t.a = true ∧
      100 * t.c.toNat + decimalValue t.a = decimalValue s.a + decimalValue m + s.c.toNat) ∧
    (i.mnemonic = .SBC →
      validBcd t.a = true ∧
      (decimalValue t.a : Int) - 100 * (1 - t.c.toNat) =
        decimalValue s.a - decimalValue m - (1 - s.c.toNat))

/-- 40_arithmetic.md "Decimal mode" and 92 D11: under the conservative `DecimalModel` a decimal ADC or SBC
completes and draws four arbitrary values: N, V and Z are free values, and so are A and C unless both operands
are valid BCD, when they are those of the NMOS algorithm; nothing else changes. Which draw goes where is the
model's choice, assumption log 7; the draws have no value that anything could be proved about. -/
def Obligations.ConservativeDecimalLeavesFlagsOpen : Prop :=
  ∀ (i : Instr) (s : State), i.mnemonic = .ADC ∨ i.mnemonic = .SBC → Accessible i s → s.d = true →
    s.platform.decimal = .conservative →
    let k := (advanced i s).draws
    let valid := validBcd s.a = true ∧ validBcd (operand i s) = true
    ∃ (a : Byte) (c : Bool),
      exec i s = .next { advanced i s with
        a := a
        c := c
        n := Config.freeBit (k + 1)
        v := Config.freeBit (k + 2)
        z := Config.freeBit (k + 3)
        draws := k + 4 } ∧
      (valid → ∀ u, exec i { s with platform := { s.platform with decimal := .nmos } } = .next u →
        a = u.a ∧ c = u.c) ∧
      (¬ valid → a = Config.freeByte k ∧ c = Config.freeBit k)

/-- R123, R124, R125: CMP in its eight forms, CPX and CPY in their three (cmpImm, cmpZp, cmpZpx, cmpAbs, cmpAbx,
cmpAby, cmpIzx, cmpIzy, cpxImm, cpxZp, cpxAbs, cpyImm, cpyZp, cpyAbs). The result depends neither on D nor on
the C before, and no register but PC changes. -/
def Obligations.CompareResults : Prop :=
  EncodedAs .CMP ∧ EncodedAs .CPX ∧ EncodedAs .CPY ∧
  ∀ (i : Instr) (s : State), Accessible i s →
    let m := operand i s
    let compared (reg : Byte) : Result := .next { advanced i s with
      c := decide (m.toNat ≤ reg.toNat), z := decide (reg = m), n := (reg - m).getLsbD 7 }
    (i.mnemonic = .CMP → exec i s = compared s.a) ∧
    (i.mnemonic = .CPX → exec i s = compared s.x) ∧
    (i.mnemonic = .CPY → exec i s = compared s.y)

/-! ## Logical -/

/-- R140, R141, R142: AND, EOR and ORA in their eight forms each (andImm … andIzy, eorImm … eorIzy, oraImm …
oraIzy). -/
def Obligations.LogicalResults : Prop :=
  EncodedAs .AND ∧ EncodedAs .EOR ∧ EncodedAs .ORA ∧
  ∀ (i : Instr) (s : State), Accessible i s →
    let m := operand i s
    let gives (r : Byte) : Result :=
      .next { advanced i s with a := r, n := r.getLsbD 7, z := decide (r = 0#8) }
    (i.mnemonic = .AND → exec i s = gives (s.a &&& m)) ∧
    (i.mnemonic = .EOR → exec i s = gives (s.a ^^^ m)) ∧
    (i.mnemonic = .ORA → exec i s = gives (s.a ||| m))

/-- R143: BIT in its two forms (bitZp, bitAbs). -/
def Obligations.BitTestResult : Prop :=
  EncodedAs .BIT ∧
  ∀ (i : Instr) (s : State), i.mnemonic = .BIT → Accessible i s →
    exec i s = .next { advanced i s with
      z := decide (s.a &&& operand i s = 0#8)
      n := (operand i s).getLsbD 7
      v := (operand i s).getLsbD 6 }

/-! ## Shift and rotate -/

/-- R151 to R154: ASL, LSR, ROL and ROR in their Accumulator form (aslAcc, lsrAcc, rolAcc, rorAcc), and in their
four memory forms each (aslZp … aslAbx, lsrZp … lsrAbx, rolZp … rolAbx, rorZp … rorAbx), where the byte at
the effective address is replaced, and no other. -/
def Obligations.ShiftResults : Prop :=
  (∀ mn ∈ [Mnemonic.ASL, .LSR, .ROL, .ROR], EncodedAs mn) ∧
  (∀ s : State, s.clear [s.pc + 1#16] →
    let shifted (r : Byte) (c : Bool) : Result :=
      .next { past 1 s with a := r, c := c, n := r.getLsbD 7, z := decide (r = 0#8) }
    exec .aslAcc s = shifted (BitVec.ofNat 8 (2 * s.a.toNat)) (s.a.getLsbD 7) ∧
    exec .lsrAcc s = .next { past 1 s with
      a := BitVec.ofNat 8 (s.a.toNat / 2)
      c := s.a.getLsbD 0
      n := false
      z := decide (BitVec.ofNat 8 (s.a.toNat / 2) = 0#8) } ∧
    exec .rolAcc s = shifted (BitVec.ofNat 8 (2 * s.a.toNat + s.c.toNat)) (s.a.getLsbD 7) ∧
    exec .rorAcc s = shifted (BitVec.ofNat 8 (s.a.toNat / 2 + 128 * s.c.toNat)) (s.a.getLsbD 0)) ∧
  ∀ (i : Instr) (s : State) (m : MemMode), i.operand = .mem m → Accessible i s →
    let v := s.value m
    let shifts (r : Byte) (c : Bool) : Prop :=
      EndsIn (exec i s) s { advanced i s with c := c, n := r.getLsbD 7, z := decide (r = 0#8) }
        [(s.ea m, r)]
    (i.mnemonic = .ASL → shifts (BitVec.ofNat 8 (2 * v.toNat)) (v.getLsbD 7)) ∧
    (i.mnemonic = .LSR → shifts (BitVec.ofNat 8 (v.toNat / 2)) (v.getLsbD 0)) ∧
    (i.mnemonic = .ROL → shifts (BitVec.ofNat 8 (2 * v.toNat + s.c.toNat)) (v.getLsbD 7)) ∧
    (i.mnemonic = .ROR → shifts (BitVec.ofNat 8 (v.toNat / 2 + 128 * s.c.toNat)) (v.getLsbD 0))

/-! ## Branches -/

/-- R160 to R168 and R96: bcc, bcs, beq, bmi, bne, bpl, bvc, bvs. -/
def Obligations.BranchResults : Prop :=
  (∀ mn ∈ [Mnemonic.BCC, .BCS, .BEQ, .BMI, .BNE, .BPL, .BVC, .BVS], EncodedAs mn) ∧
  ∀ (s : State) (rel : Byte),
    let goes (cond : Bool) : Result :=
      .next { past 2 s with pc := s.pc + 2#16 + if cond then BitVec.ofInt 16 rel.toInt else 0#16 }
    exec (.bcc rel) s = goes (decide (s.c = false)) ∧
    exec (.bcs rel) s = goes (decide (s.c = true)) ∧
    exec (.beq rel) s = goes (decide (s.z = true)) ∧
    exec (.bmi rel) s = goes (decide (s.n = true)) ∧
    exec (.bne rel) s = goes (decide (s.z = false)) ∧
    exec (.bpl rel) s = goes (decide (s.n = false)) ∧
    exec (.bvc rel) s = goes (decide (s.v = false)) ∧
    exec (.bvs rel) s = goes (decide (s.v = true))

/-! ## System and flag instructions -/

/-- R180: brk stacks `pc0 + 2` and the status byte with B set, sets I, and goes through &FFFE. That I_prev takes the
new I (`entered`) is R317's for an entry, and that BRK counts as one is the model's reading, assumption log 11. -/
def Obligations.BreakResult : Prop :=
  EncodedAs .BRK ∧
  ∀ s : State, Accessible .brk s →
    EndsIn (exec .brk s) s (entered s 0xFFFE#16) (frame s (s.pc + 2#16) true)

/-- R181: rti pulls the status byte `p`, then PC low, then PC high; I_prev takes the new I (R317). -/
def Obligations.ReturnFromInterruptResult : Prop :=
  EncodedAs .RTI ∧
  ∀ (s : State) (p lo hi : Byte), Accessible .rti s → s.peeks (stackTop s 3) = [p, lo, hi] →
    exec .rti s = .next { s with
      sp := s.sp + 3#8
      n := p.getLsbD 7
      v := p.getLsbD 6
      d := p.getLsbD 3
      i := p.getLsbD 2
      z := p.getLsbD 1
      c := p.getLsbD 0
      iPrev := p.getLsbD 2
      pc := hi ++ lo
      draws := (s.afterReads (stackTop s 3)).draws }

/-- R182 (nop) and R190 to R196 (clc, cld, cli, clv, sec, sed, sei): one flag, or none, and nothing else. -/
def Obligations.FlagInstructionResults : Prop :=
  (∀ mn ∈ [Mnemonic.NOP, .CLC, .CLD, .CLI, .CLV, .SEC, .SED, .SEI], EncodedAs mn) ∧
  ∀ s : State, s.clear [s.pc + 1#16] →
    exec .nop s = .next (past 1 s) ∧
    exec .clc s = .next { past 1 s with c := false } ∧
    exec .cld s = .next { past 1 s with d := false } ∧
    exec .cli s = .next { past 1 s with i := false } ∧
    exec .clv s = .next { past 1 s with v := false } ∧
    exec .sec s = .next { past 1 s with c := true } ∧
    exec .sed s = .next { past 1 s with d := true } ∧
    exec .sei s = .next { past 1 s with i := true }

/-! ## Increment and decrement -/

/-- R201, R202, R204, R205: dex, dey, inx, iny wrap modulo 256 and write N and Z. -/
def Obligations.IndexStepResults : Prop :=
  (∀ mn ∈ [Mnemonic.DEX, .DEY, .INX, .INY], EncodedAs mn) ∧
  ∀ s : State, s.clear [s.pc + 1#16] →
    let toX (r : Byte) : Result :=
      .next { past 1 s with x := r, n := r.getLsbD 7, z := decide (r = 0#8) }
    let toY (r : Byte) : Result :=
      .next { past 1 s with y := r, n := r.getLsbD 7, z := decide (r = 0#8) }
    exec .dex s = toX (BitVec.ofNat 8 (s.x.toNat + 255)) ∧
    exec .dey s = toY (BitVec.ofNat 8 (s.y.toNat + 255)) ∧
    exec .inx s = toX (BitVec.ofNat 8 (s.x.toNat + 1)) ∧
    exec .iny s = toY (BitVec.ofNat 8 (s.y.toNat + 1))

/-- R200, R203: DEC and INC in their four forms (decZp, decZpx, decAbs, decAbx, incZp, incZpx, incAbs, incAbx):
the byte at the effective address is replaced, and no other. -/
def Obligations.MemoryStepResults : Prop :=
  EncodedAs .DEC ∧ EncodedAs .INC ∧
  ∀ (i : Instr) (s : State) (m : MemMode), i.operand = .mem m → Accessible i s →
    let steps (r : Byte) : Prop :=
      EndsIn (exec i s) s { advanced i s with n := r.getLsbD 7, z := decide (r = 0#8) } [(s.ea m, r)]
    (i.mnemonic = .DEC → steps (BitVec.ofNat 8 ((s.value m).toNat + 255))) ∧
    (i.mnemonic = .INC → steps (BitVec.ofNat 8 ((s.value m).toNat + 1)))

/-! ## Jumps, call and return -/

/-- R210 and R95: jmpAbs, and jmpInd, whose second byte comes from the same page. -/
def Obligations.JumpResults : Prop :=
  EncodedAs .JMP ∧
  ∀ (s : State) (addr : Addr),
    exec (.jmpAbs addr) s = .next { past 3 s with pc := addr } ∧
    let cells : List Addr := [addr, hiByte addr ++ (loByte addr + 1#8)]
    ∀ lo hi : Byte, Accessible (.jmpInd addr) s → s.peeks cells = [lo, hi] →
      exec (.jmpInd addr) s = .next { past 3 s with pc := hi ++ lo, draws := (s.afterReads cells).draws }

/-- R211: jsr stacks the address of its own last byte and jumps. -/
def Obligations.CallResult : Prop :=
  EncodedAs .JSR ∧
  ∀ (s : State) (addr : Addr), Accessible (.jsr addr) s →
    EndsIn (exec (.jsr addr) s) s { past 3 s with pc := addr, sp := s.sp - 2#8 }
      [(stackAddr (s.sp - 1#8), loByte (s.pc + 2#16)), (stackAddr s.sp, hiByte (s.pc + 2#16))]

/-- R212: rts pulls an address, the low byte first, and adds 1. -/
def Obligations.SubroutineReturnResult : Prop :=
  EncodedAs .RTS ∧
  ∀ (s : State) (lo hi : Byte), Accessible .rts s → s.peeks (stackTop s 2) = [lo, hi] →
    exec .rts s = .next { past 1 s with
      sp := s.sp + 2#8
      pc := (hi ++ lo) + 1#16
      draws := (s.afterReads (stackTop s 2)).draws }

/-- R211 with R212: where the stack is ram, RTS after JSR comes back to the instruction after the JSR with SP
and every register as before. -/
def Obligations.CallThenReturn : Prop :=
  ∀ (s t u : State) (addr : Addr), AllRam s (freeSlots s 2) →
    exec (.jsr addr) s = .next t → exec .rts t = .next u →
      { u with mem := s.mem } = past 3 s

/-- R180 with R181, R308: where the stack is ram, RTI after BRK comes back to `pc0 + 2` with every flag and
register as before. -/
def Obligations.BreakThenReturn : Prop :=
  ∀ s t u : State, AllRam s (freeSlots s 3) → AllStored s [0xFFFE#16, 0xFFFF#16] →
    exec .brk s = .next t → exec .rti t = .next u →
      { u with mem := s.mem } = { s with pc := s.pc + 2#16, iPrev := s.i }

/-! ## Loads and stores -/

/-- R220, R221, R222: LDA in its eight forms (ldaImm … ldaIzy), LDX and LDY in their five (ldxImm, ldxZp, ldxZpy,
ldxAbs, ldxAby, ldyImm, ldyZp, ldyZpx, ldyAbs, ldyAbx). -/
def Obligations.LoadResults : Prop :=
  EncodedAs .LDA ∧ EncodedAs .LDX ∧ EncodedAs .LDY ∧
  ∀ (i : Instr) (s : State), Accessible i s →
    let m := operand i s
    (i.mnemonic = .LDA → exec i s =
      .next { advanced i s with a := m, n := m.getLsbD 7, z := decide (m = 0#8) }) ∧
    (i.mnemonic = .LDX → exec i s =
      .next { advanced i s with x := m, n := m.getLsbD 7, z := decide (m = 0#8) }) ∧
    (i.mnemonic = .LDY → exec i s =
      .next { advanced i s with y := m, n := m.getLsbD 7, z := decide (m = 0#8) })

/-- R223, R224, R225: STA in its seven forms (staZp … staIzy), STX (stxZp, stxZpy, stxAbs) and STY (styZp, styZpx,
styAbs): one byte at the effective address, no flag, no register. -/
def Obligations.StoreResults : Prop :=
  EncodedAs .STA ∧ EncodedAs .STX ∧ EncodedAs .STY ∧
  ∀ (i : Instr) (s : State) (m : MemMode), i.operand = .mem m → Accessible i s →
    let stores (b : Byte) : Prop :=
      EndsIn (exec i s) s { advanced i s with draws := (s.afterPointer m).draws } [(s.ea m, b)]
    (i.mnemonic = .STA → stores s.a) ∧
    (i.mnemonic = .STX → stores s.x) ∧
    (i.mnemonic = .STY → stores s.y)

/-- R60: "a load sees the latest earlier store to its address", in any two forms that name one address. -/
def Obligations.LoadSeesLatestStore : Prop :=
  ∀ (i j : Instr) (s t u : State) (m m' : MemMode),
    i.mnemonic = .STA → i.operand = .mem m → j.mnemonic = .LDA → j.operand = .mem m' →
    s.kindAt (s.ea m) = .ram → exec i s = .next t → t.ea m' = s.ea m → exec j t = .next u →
      u.a = s.a

/-- R63: "an instruction that writes to the bytes of the next instruction changes what is next executed": after
a step that runs STA to a ram address, a fetch at that address finds the stored byte as its op-code. -/
def Obligations.FetchSeesLatestStore : Prop :=
  ∀ (i j : Instr) (s t : State) (m : MemMode),
    i.mnemonic = .STA → i.operand = .mem m → s.kindAt (s.ea m) = .ram → exec i s = .next t →
    t.pc = s.ea m → j.length = 1 → s.a = j.opcode →
      fetch t = .next (j, t)

/-! ## Stack and transfers -/

/-- R230, R231, R32: pha and php push A and the status byte with bits 5 and 4 set, and write nothing else. -/
def Obligations.PushResults : Prop :=
  EncodedAs .PHA ∧ EncodedAs .PHP ∧
  ∀ s : State, s.clear [s.pc + 1#16, stackAddr s.sp] →
    EndsIn (exec .pha s) s { past 1 s with sp := s.sp - 1#8 } [(stackAddr s.sp, s.a)] ∧
    EndsIn (exec .php s) s { past 1 s with sp := s.sp - 1#8 } [(stackAddr s.sp, s.pByte true)]

/-- R232, R233, R33: pla and plp pull the byte `b` into A, with N and Z, and into the six flags. -/
def Obligations.PullResults : Prop :=
  EncodedAs .PLA ∧ EncodedAs .PLP ∧
  ∀ (s : State) (b : Byte), s.clear ((s.pc + 1#16) :: stackAddr s.sp :: stackTop s 1) → s.peeks (stackTop s 1) = [b] →
    let pulled : State :=
      { past 1 s with sp := s.sp + 1#8, draws := (s.afterReads (stackTop s 1)).draws }
    exec .pla s = .next { pulled with a := b, n := b.getLsbD 7, z := decide (b = 0#8) } ∧
    exec .plp s = .next { pulled with
      n := b.getLsbD 7
      v := b.getLsbD 6
      d := b.getLsbD 3
      i := b.getLsbD 2
      z := b.getLsbD 1
      c := b.getLsbD 0 }

/-- R234 to R239: tax, tay, tsx, txa, tya copy and write N and Z; txs copies and writes no flag. -/
def Obligations.TransferResults : Prop :=
  (∀ mn ∈ [Mnemonic.TAX, .TAY, .TSX, .TXA, .TXS, .TYA], EncodedAs mn) ∧
  ∀ s : State, s.clear [s.pc + 1#16] →
    let nz (r : Byte) : State := { past 1 s with n := r.getLsbD 7, z := decide (r = 0#8) }
    exec .tax s = .next { nz s.a with x := s.a } ∧
    exec .tay s = .next { nz s.a with y := s.a } ∧
    exec .tsx s = .next { nz s.sp with x := s.sp } ∧
    exec .txa s = .next { nz s.x with a := s.x } ∧
    exec .txs s = .next { past 1 s with sp := s.x } ∧
    exec .tya s = .next { nz s.y with a := s.y }

/-- R32, R33: each bit of the status byte, and loading it back restores the six flags, whatever bits 5 and 4
hold. -/
def Obligations.StatusByteLayout : Prop :=
  ∀ (s : State) (b : Bool),
    (s.pByte b).toNat = 128 * s.n.toNat + 64 * s.v.toNat + 32 + 16 * b.toNat + 8 * s.d.toNat +
      4 * s.i.toNat + 2 * s.z.toNat + s.c.toNat ∧
    s.setP (s.pByte b) = s ∧
    ∀ p : Byte, s.setP (p ||| 0x30#8) = s.setP p ∧ s.setP (p &&& 0xCF#8) = s.setP p

/-! ## Exceptions -/

/-- R303: the common entry, for each of the three vectors of R56 (R303 itself uses &FFFA and &FFFE) and either
value of B. That I_prev takes the new I (`entered`) is R317's; that BRK's entry does so too is the model's
reading, assumption log 11. -/
def Obligations.InterruptEntry : Prop :=
  ∀ (s : State) (vector : Addr) (b : Bool), IsVector vector → s.clear (entrySpace s vector) →
    EndsIn (interrupt vector b s) s (entered s vector) (frame s s.pc b)

/-- R340: the reset sequence, which a boundary with reset signalled performs before all else (R306): SP three
lower with no byte written, I and I_prev set, no NMI pending, PC from &FFFC. That an NMI edge signalled at the
same boundary is lost is the model's reading, assumption log 10. -/
def Obligations.ResetAtBoundary : Prop :=
  ∀ s : State, s.signals.reset = true → s.clear (entrySpace s 0xFFFC#16) →
    step s = .next { s with
      inputs := s.inputs.tail
      sp := s.sp - 3#8
      i := true
      nmiPending := false
      iPrev := true
      pc := s.peek16 0xFFFC#16
      draws := (s.after16 0xFFFC#16).draws }

/-- R305: a pending NMI is taken at the boundary, I or no I, unless reset is signalled; so is an edge
signalled there, where the op-code at PC is not BRK's. That an NMI pending from before is taken without a
choice even when PC is at a BRK and a new edge is signalled, and that the two edges are one NMI, is the model's
reading, assumption log 10. -/
def Obligations.NmiIsTaken : Prop :=
  ∀ s : State, s.signals.reset = false → s.clear (entrySpace s 0xFFFA#16) →
    (s.nmiPending = true ∨
      s.signals.nmi = true ∧ s.kindAt s.pc ≠ .device ∧ s.peek s.pc ≠ 0x00#8) →
      EndsIn (step s) s
        { entered s 0xFFFA#16 with inputs := s.inputs.tail, nmiPending := false } (frame s s.pc false)

/-- R306: an NMI edge at the boundary before a BRK has one of the three outcomes, and with no device touched
all three complete: (a) the NMI now, (b) the BRK with the NMI left pending, (c) BRK's frame through the NMI
vector. Which of them is a free choice, and at an unmapped PC the op-code looked at is the draw that the
fetch reads: assumption log 10. That I_prev takes the new I after BRK (`entered`) is the model's reading,
assumption log 11. -/
def Obligations.NmiMeetsBreak : Prop :=
  ∀ s : State, s.signals.reset = false → s.nmiPending = false → s.signals.nmi = true →
    s.kindAt s.pc ≠ .device → s.peek s.pc = 0x00#8 →
    s.clear (entrySpace s 0xFFFA#16) → Accessible .brk s →
      let s1 := { s with inputs := s.inputs.tail, choices := s.choices + 1 }
      let s2 := s1.afterRead s.pc
      EndsIn (step s) s { entered s1 0xFFFA#16 with nmiPending := false } (frame s s.pc false) ∨
      EndsIn (step s) s { entered s2 0xFFFE#16 with nmiPending := true } (frame s (s.pc + 2#16) true) ∨
      EndsIn (step s) s { entered s2 0xFFFA#16 with nmiPending := false } (frame s (s.pc + 2#16) true)

/-- R304: an IRQ that the mask allows is taken, or the next instruction is executed; nothing else happens.
Which of them is a free choice, assumption log 9. -/
def Obligations.IrqIsTakenOrDeferred : Prop :=
  ∀ s : State, s.signals = { reset := false, nmi := false, irq := true } → s.nmiPending = false →
    s.i = false ∨ s.iPrev = false → s.clear (entrySpace s 0xFFFE#16) →
      let s1 := { s with inputs := s.inputs.tail, choices := s.choices + 1 }
      EndsIn (step s) s (entered s1 0xFFFE#16) (frame s s.pc false) ∨ step s = runs s1

/-- R304, R317: with I and I_prev both set, an IRQ is not taken: the next instruction is executed, and no
choice is made. -/
def Obligations.MaskedIrqIsNotTaken : Prop :=
  ∀ s : State, s.signals.reset = false → s.signals.nmi = false → s.nmiPending = false →
    s.i = true → s.iPrev = true → step s = runs s.sampled

/-- R317, R36: after an instruction I_prev holds the I it started with, but after RTI and BRK, where it holds
the new I. That BRK counts as an entry here, and does not keep the I it started with as R36 alone would have
it, is the model's reading, assumption log 11. So an IRQ that SEI masks may still be taken at the boundary right after it, and at no later one: one
NOP on, it is not admissible. -/
def Obligations.MaskLatency : Prop :=
  (∀ (i : Instr) (s t : State), exec i s = .next t →
    t.iPrev = if i.mnemonic = .RTI ∨ i.mnemonic = .BRK then t.i else s.i) ∧
  ∀ s t u : State, s.i = false → exec .sei s = .next t → exec .nop t = .next u →
    t.irqAllowed = true ∧ t.i = true ∧ u.irqAllowed = false

/-- R318: no entry and no reset changes D, nor N, V, Z and C; nor A, X and Y. RTI takes D from the stacked
byte. -/
def Obligations.EntryKeepsFlagsAndRegisters : Prop :=
  (∀ s t : State, ∀ r ∈ [exec .brk s, takeIrq s, takeNmi s, captureBrk s, resetSequence s], r = .next t →
    t.d = s.d ∧ t.n = s.n ∧ t.v = s.v ∧ t.z = s.z ∧ t.c = s.c ∧ t.a = s.a ∧ t.x = s.x ∧ t.y = s.y) ∧
  ∀ s t : State, exec .rti s = .next t → t.d = (s.peek (stackAddr (s.sp + 1#8))).getLsbD 3

/-! ## The whole machine -/

/-- R37: what reset leaves, where the spec gives a value; PC is the vector's content. (The other registers'
values are the model's choice, assumption log 2, and are not stated.) -/
def Obligations.ResetState : Prop :=
  State.reset.i = true ∧ State.reset.nmiPending = false ∧ State.reset.iPrev = true ∧
    State.reset.pc = State.reset.peek16 0xFFFC#16 ∧
    ∀ a : Addr, State.reset.kindAt a = .ram

/-- The invariant holds right after reset. -/
def Obligations.InvariantAtReset : Prop := State.reset.Inv

/-- Every step keeps memory in its canonical form, inside the 65,536 addresses of R50. -/
def Obligations.StepKeepsInvariant : Prop :=
  ∀ s t : State, s.Inv → step s = .next t → t.Inv

/-- R57, U6: no step changes a byte at an address that is not ram, nor what stands at any address. -/
def Obligations.OnlyRamChanges : Prop :=
  ∀ s t : State, step s = .next t →
    t.platform = s.platform ∧
    ∀ a : Addr, s.kindAt a ≠ .ram → Memory.read t.mem a.toNat = Memory.read s.mem a.toNat

/-- R58, R301: an instruction completes in a next state, from every state, exactly where nothing it touches is
a device's; so each does on a platform without devices. Which addresses count (`touched`: not the target of a
jump, a call or a branch, and of the part's other cycles only those that R66 and 93 U8 name) is the model's
reading, assumption log 5. -/
def Obligations.EveryInstructionCompletes : Prop :=
  (∀ (i : Instr) (s : State), (∃ t, exec i s = .next t) ↔ Accessible i s) ∧
  ∀ (i : Instr) (s : State), s.deviceFree → ∃ t, exec i s = .next t

/-- R100, R301: where no address is a device's, the only stop there is, in any run, is an unlisted op-code. -/
def Obligations.RunsStopOnlyAtUnlistedOpcodes : Prop :=
  ∀ s t : State, s.deviceFree → Reaches s t →
    (∃ u, step t = .next u) ∨ ∃ op ∈ unlisted, step t = .refused (.unlistedOpcode op)

/-- R38: an instruction leaves every flag that its row of the table does not write. -/
def Obligations.FlagsWrittenByTheTable : Prop :=
  ∀ (i : Instr) (s t : State), exec i s = .next t →
    let w := flagsWritten i.mnemonic
    (w.n = false → t.n = s.n) ∧ (w.v = false → t.v = s.v) ∧ (w.d = false → t.d = s.d) ∧
    (w.i = false → t.i = s.i) ∧ (w.z = false → t.z = s.z) ∧ (w.c = false → t.c = s.c)

/-- R20 to R23: which instructions write A, X, Y and SP. -/
def Obligations.RegistersWrittenOnlyBy : Prop :=
  ∀ (i : Instr) (s t : State), exec i s = .next t →
    (t.a ≠ s.a → i.mnemonic ∈ [.ADC, .SBC, .AND, .EOR, .ORA, .LDA, .PLA, .TXA, .TYA] ∨
      i.mode = .ACC ∧ i.mnemonic ∈ [.ASL, .LSR, .ROL, .ROR]) ∧
    (t.x ≠ s.x → i.mnemonic ∈ [.LDX, .TAX, .TSX, .DEX, .INX]) ∧
    (t.y ≠ s.y → i.mnemonic ∈ [.LDY, .TAY, .DEY, .INY]) ∧
    (t.sp ≠ s.sp → i.mnemonic ∈ [.TXS, .PHA, .PHP, .PLA, .PLP, .JSR, .RTS, .BRK, .RTI])

/-- R55, R67, R150, R200, R203, R223 to R225: a byte of memory changes only by a store or a
read-modify-write, at its effective address, or by a push, at the one, two or three free
stack locations that PHA and PHP, JSR and BRK use. -/
def Obligations.MemoryWrittenOnlyBy : Prop :=
  ∀ (i : Instr) (s t : State) (a : Addr), exec i s = .next t →
    Memory.read t.mem a.toNat ≠ Memory.read s.mem a.toNat →
      (i.mnemonic ∈ [.STA, .STX, .STY, .ASL, .LSR, .ROL, .ROR, .DEC, .INC] ∧
        ∃ m, i.operand = .mem m ∧ a = s.ea m) ∨
      (i.mnemonic ∈ [.PHA, .PHP] ∧ a ∈ freeSlots s 1) ∨
      (i.mnemonic = .JSR ∧ a ∈ freeSlots s 2) ∨
      (i.mnemonic = .BRK ∧ a ∈ freeSlots s 3)

/-- R36, R307: no instruction touches the interrupt inputs, the pending NMI, the platform or the choices, and
the count of draws never falls. -/
def Obligations.InstructionsLeaveTheEnvironment : Prop :=
  ∀ (i : Instr) (s t : State), exec i s = .next t →
    t.inputs = s.inputs ∧ t.nmiPending = s.nmiPending ∧ t.platform = s.platform ∧
      t.choices = s.choices ∧ s.draws ≤ t.draws

/-- R57, R66 and 93 U8: an instruction that touches a device's address (`touched`: a pointer byte, the effective
address or its partner in the un-carried page; the pointer of JMP indirect; the byte after a one-byte
instruction; the stack of PHA, PHP, PLA, PLP, JSR, RTS, RTI and BRK, with the location that the pulling ones
read before the first pull; BRK's vector) is refused, naming such an address. That nothing else counts is the
model's reading, assumption log 5. -/
def Obligations.DeviceAccessIsRefused : Prop :=
  ∀ (i : Instr) (s : State), ¬ Accessible i s →
    ∃ a ∈ touched i s, s.kindAt a = .device ∧ exec i s = .refused (.deviceAccess a)

/-- R57, R66, R340 and 93 U8: a reset, an NMI and an IRQ that would touch a device's address on the stack or at
its vector refuse the step; the reset's three stack cycles are reads, and count too (which cycles count:
assumption log 5). The NMI is one pending from before, or an edge at this boundary where the op-code at PC is
not BRK's; before a BRK an edge does so unless the BRK is executed first (a free choice). That an NMI pending
from before is taken without a choice even before a BRK with a new edge, and that at a device's PC no op-code
is looked at and the NMI is taken, is the model's reading, assumption log 10. An IRQ does so only if it is
taken (a free choice, assumption log 9). -/
def Obligations.EntryAtDeviceIsRefused : Prop :=
  (∀ (s : State) (vector : Addr) (b : Bool), IsVector vector → ¬ s.clear (entrySpace s vector) →
    ∃ a ∈ entrySpace s vector, s.kindAt a = .device ∧ interrupt vector b s = .refused (.deviceAccess a)) ∧
  (∀ s : State, s.signals.reset = true → ¬ s.clear (entrySpace s 0xFFFC#16) →
    ∃ a ∈ entrySpace s 0xFFFC#16, s.kindAt a = .device ∧ step s = .refused (.deviceAccess a)) ∧
  (∀ s : State, s.signals.reset = false → ¬ s.clear (entrySpace s 0xFFFA#16) →
    (s.nmiPending = true ∨
      s.signals.nmi = true ∧ (s.kindAt s.pc = .device ∨ s.peek s.pc ≠ 0x00#8)) →
      ∃ a ∈ entrySpace s 0xFFFA#16, s.kindAt a = .device ∧ step s = .refused (.deviceAccess a)) ∧
  (∀ s : State, s.signals.reset = false → s.nmiPending = false → s.signals.nmi = true →
    s.kindAt s.pc ≠ .device → s.peek s.pc = 0x00#8 → ¬ s.clear (entrySpace s 0xFFFA#16) →
      (∃ a ∈ (s.pc + 1#16) :: entrySpace s 0xFFFA#16,
        s.kindAt a = .device ∧ step s = .refused (.deviceAccess a)) ∨
      step s = runs { s with inputs := s.inputs.tail, choices := s.choices + 1, nmiPending := true }) ∧
  ∀ s : State, s.signals = { reset := false, nmi := false, irq := true } → s.nmiPending = false →
    s.i = false ∨ s.iPrev = false → ¬ s.clear (entrySpace s 0xFFFE#16) →
      (∃ a ∈ entrySpace s 0xFFFE#16, s.kindAt a = .device ∧ step s = .refused (.deviceAccess a)) ∨
      step s = runs { s with inputs := s.inputs.tail, choices := s.choices + 1 }

/-- R57, U5: in every mode that names memory, the operand at an unmapped effective address is the free value of
the draw that the count names once the pointer has been read, and the count rises by one, so that no later
read gives the same draw; and LDA in that mode loads it. -/
def Obligations.UnmappedReadsAreFresh : Prop :=
  ∀ (s : State) (m : MemMode), s.kindAt (s.ea m) = .unmapped →
    s.value m = Config.freeByte (s.afterPointer m).draws ∧
    (s.afterValue m).draws = (s.afterPointer m).draws + 1 ∧
    ∀ i : Instr, i.mnemonic = .LDA → i.operand = .mem m → Accessible i s →
      ∃ t, exec i s = .next t ∧ t.a = Config.freeByte (s.afterPointer m).draws ∧
        t.draws = (s.afterPointer m).draws + 1

/-- R210 and 92 D23: with nothing signalled, a JMP to its own address runs for ever and changes nothing but
I_prev. That an empty list of samples signals nothing, at this boundary and at every later one, is the
model's choice, assumption log 8. -/
def Obligations.SelfJumpLoops : Prop :=
  ∀ s : State, s.atSelfJump = true → s.inputs = [] → s.nmiPending = false →
    (∀ t, Reaches s t → t = s ∨ t = { s with iPrev := s.i }) ∧ step s = .next { s with iPrev := s.i }
end

