-- ==== Sys2Proof/Laws/Decode.lean ====
section
/-! SUPPORT. Small facts about the operand fields (30_encoding.md R83). -/

namespace Sys2Proof

/-- A 16-bit value is its high byte followed by its low byte. -/
theorem extract_append (a : Addr) : (a.extractLsb' 8 8 ++ a.extractLsb' 0 8 : Addr) = a := by
  apply BitVec.eq_of_toNat_eq
  have := a.isLt
  simp only [BitVec.toNat_append, BitVec.extractLsb'_toNat, Nat.shiftRight_zero]
  rw [Nat.shiftRight_eq_div_pow, ← Nat.shiftLeft_add_eq_or_of_lt (by omega), Nat.shiftLeft_eq]
  omega

/-- The two operand bytes of an address give it back. -/
@[simp] theorem joinAddr_split (a : Addr) : joinAddr (addrLow a) (addrHigh a) = a := extract_append a

@[simp] theorem addrLow_join (lo hi : Byte) : addrLow (joinAddr lo hi) = lo :=
  BitVec.extractLsb'_append_eq_right

@[simp] theorem addrHigh_join (lo hi : Byte) : addrHigh (joinAddr lo hi) = hi :=
  BitVec.extractLsb'_append_eq_left

end Sys2Proof
end

