-- ==== Sys2Proof/Laws/Memory.lean ====
section
/-! SUPPORT. The laws of memory: a read gives the last write, and writes keep the canonical form. -/

namespace Sys2Proof.Machine

/-- A read of an inserted cell, where its address was not listed before. -/
theorem Memory.read_insert (m : Memory) (k : Nat) (b : Byte) (j : Nat)
    (h : ∀ cell ∈ m, cell.1 ≠ k) :
    Memory.read (Memory.insert m (k, b)) j = if j = k then b else Memory.read m j := by
  induction m with
  | nil => simp [Memory.insert, Memory.read, eq_comm]
  | cons cell rest ih =>
    have hc : cell.1 ≠ k := h cell (by simp)
    have hr := ih fun c hc => h c (by simp [hc])
    by_cases hlt : k < cell.1
    · simp [Memory.insert, hlt, Memory.read, eq_comm]
    · simp only [Memory.insert, hlt, if_false, Memory.read, hr]
      by_cases hj : cell.1 = j
      · have : j ≠ k := fun e => hc (hj.trans e)
        simp [hj, this]
      · simp [hj]

/-- Removing the cells of `k` changes only what `k` reads as. -/
theorem Memory.read_remove (m : Memory) (k j : Nat) :
    Memory.read (m.filter fun cell => cell.1 != k) j = if j = k then blankByte else Memory.read m j := by
  induction m with
  | nil => simp [Memory.read]
  | cons cell rest ih =>
    by_cases hk : cell.1 = k
    · have hf : (cell.1 != k) = false := by simp [hk]
      rw [List.filter_cons_of_neg (by simp [hk]), ih]
      by_cases hj : j = k
      · simp [hj]
      · have : cell.1 ≠ j := fun e => hj (e.symm.trans hk)
        simp [hj, Memory.read, this]
    · rw [List.filter_cons_of_pos (by simp [hk])]
      simp only [Memory.read, ih]
      by_cases hj : cell.1 = j
      · have : j ≠ k := fun e => hk (hj.trans e)
        simp [hj, this]
      · simp [hj]

/-- Read after write, at every address (20_memory.md R58, R60). -/
theorem Memory.read_write (m : Memory) (k : Nat) (b : Byte) (j : Nat) :
    Memory.read (Memory.write m k b) j = if j = k then b else Memory.read m j := by
  have hno : ∀ cell ∈ m.filter (fun cell => cell.1 != k), cell.1 ≠ k := by
    intro cell h
    simpa using (List.mem_filter.mp h).2
  by_cases hb : b = blankByte
  · simp [Memory.write, hb, Memory.read_remove]
  · simp only [Memory.write, hb, if_false, Memory.read_insert _ _ _ _ hno, Memory.read_remove]
    by_cases hj : j = k <;> simp [hj]

theorem Memory.wfAbove_mono {lo hi : Nat} (h : lo ≤ hi) (m : Memory) (hm : Memory.wfAbove hi m = true) :
    Memory.wfAbove lo m = true := by
  cases m with
  | nil => rfl
  | cons cell rest =>
    simp only [Memory.wfAbove, Bool.and_eq_true, decide_eq_true_eq] at hm ⊢
    exact ⟨⟨⟨h.trans hm.1.1.1, hm.1.1.2⟩, hm.1.2⟩, hm.2⟩

theorem Memory.wfAbove_remove (k lo : Nat) (m : Memory) (hm : Memory.wfAbove lo m = true) :
    Memory.wfAbove lo (m.filter fun cell => cell.1 != k) = true := by
  induction m generalizing lo with
  | nil => rfl
  | cons cell rest ih =>
    simp only [Memory.wfAbove, Bool.and_eq_true, decide_eq_true_eq] at hm
    have hrest := ih (cell.1 + 1) hm.2
    by_cases hk : cell.1 = k
    · rw [List.filter_cons_of_neg (by simp [hk])]
      exact Memory.wfAbove_mono (by omega) _ hrest
    · rw [List.filter_cons_of_pos (by simp [hk])]
      simp only [Memory.wfAbove, Bool.and_eq_true, decide_eq_true_eq]
      exact ⟨⟨⟨hm.1.1.1, hm.1.1.2⟩, hm.1.2⟩, hrest⟩

theorem Memory.wfAbove_insert (k lo : Nat) (b : Byte) (m : Memory) (hlo : lo ≤ k) (hk : k < 65536)
    (hb : b ≠ blankByte) (hno : ∀ cell ∈ m, cell.1 ≠ k) (hm : Memory.wfAbove lo m = true) :
    Memory.wfAbove lo (Memory.insert m (k, b)) = true := by
  induction m generalizing lo with
  | nil => simp [Memory.insert, Memory.wfAbove, hlo, hk, hb]
  | cons cell rest ih =>
    simp only [Memory.wfAbove, Bool.and_eq_true, decide_eq_true_eq] at hm
    have hc : cell.1 ≠ k := hno cell (by simp)
    by_cases hlt : k < cell.1
    · simp only [Memory.insert, hlt, if_true, Memory.wfAbove, Bool.and_eq_true, decide_eq_true_eq]
      exact ⟨⟨⟨hlo, by simpa using hb⟩, hk⟩, ⟨⟨by omega, hm.1.1.2⟩, hm.1.2⟩, hm.2⟩
    · simp only [Memory.insert, hlt, if_false, Memory.wfAbove, Bool.and_eq_true, decide_eq_true_eq]
      exact ⟨⟨⟨hm.1.1.1, hm.1.1.2⟩, hm.1.2⟩,
        ih (cell.1 + 1) (by omega) (fun c h => hno c (by simp [h])) hm.2⟩

/-- A write inside the address space keeps the canonical form. -/
theorem Memory.wf_write (m : Memory) (k : Nat) (b : Byte) (hk : k < 65536) (hm : m.wf = true) :
    (Memory.write m k b).wf = true := by
  have hrem := Memory.wfAbove_remove k 0 m hm
  by_cases hb : b = blankByte
  · simpa [Memory.write, hb, Memory.wf] using hrem
  · have hno : ∀ cell ∈ m.filter (fun cell => cell.1 != k), cell.1 ≠ k := by
      intro cell h
      simpa using (List.mem_filter.mp h).2
    simpa [Memory.write, hb, Memory.wf] using
      Memory.wfAbove_insert k 0 b _ (Nat.zero_le k) hk hb hno hrem

/-- The store of R58 keeps the canonical form, whatever the kind of the address. -/
theorem State.write_wf (s : State) (a : Addr) (b : Byte) (h : s.mem.wf = true) :
    (s.write a b).mem.wf = true := by
  cases hk : s.kindAt a <;> simp [State.write, hk, h, Memory.wf_write _ _ _ a.isLt]

/-- What the stored byte at `k` is after a store (R57, R58). -/
theorem State.write_read (s : State) (a : Addr) (b : Byte) (k : Nat) :
    Memory.read (s.write a b).mem k =
      if k = a.toNat ∧ s.kindAt a = .ram then b else Memory.read s.mem k := by
  cases hk : s.kindAt a <;> simp [State.write, hk, Memory.read_write]

/-- Memory right after reset is in canonical form. -/
theorem State.reset_mem_wf : State.reset.mem.wf = true := rfl

end Sys2Proof.Machine
end

