-- ==== Sys2Proof/Laws/State.lean ====
section
/-! SUPPORT. What each update of the state leaves in each field. Every lemma holds by unfolding the update
once, so that no later proof unfolds it. -/

namespace Sys2Proof.Machine

section
variable (s : State) (r : Byte)
@[simp] theorem State.setNZ_a : (s.setNZ r).a = s.a := rfl
@[simp] theorem State.setNZ_x : (s.setNZ r).x = s.x := rfl
@[simp] theorem State.setNZ_y : (s.setNZ r).y = s.y := rfl
@[simp] theorem State.setNZ_sp : (s.setNZ r).sp = s.sp := rfl
@[simp] theorem State.setNZ_pc : (s.setNZ r).pc = s.pc := rfl
@[simp] theorem State.setNZ_n : (s.setNZ r).n = r.msb := rfl
@[simp] theorem State.setNZ_v : (s.setNZ r).v = s.v := rfl
@[simp] theorem State.setNZ_d : (s.setNZ r).d = s.d := rfl
@[simp] theorem State.setNZ_i : (s.setNZ r).i = s.i := rfl
@[simp] theorem State.setNZ_z : (s.setNZ r).z = (r == 0#8) := rfl
@[simp] theorem State.setNZ_c : (s.setNZ r).c = s.c := rfl
@[simp] theorem State.setNZ_mem : (s.setNZ r).mem = s.mem := rfl
@[simp] theorem State.setNZ_nmiPending : (s.setNZ r).nmiPending = s.nmiPending := rfl
@[simp] theorem State.setNZ_iPrev : (s.setNZ r).iPrev = s.iPrev := rfl
@[simp] theorem State.setNZ_platform : (s.setNZ r).platform = s.platform := rfl
@[simp] theorem State.setNZ_inputs : (s.setNZ r).inputs = s.inputs := rfl
@[simp] theorem State.setNZ_draws : (s.setNZ r).draws = s.draws := rfl
@[simp] theorem State.setNZ_choices : (s.setNZ r).choices = s.choices := rfl
@[simp] theorem State.setNZ_kindAt (k : Addr) : (s.setNZ r).kindAt k = s.kindAt k := rfl
@[simp] theorem State.setNZ_drawsAt (k : Addr) : (s.setNZ r).drawsAt k = s.drawsAt k := rfl
@[simp] theorem State.setNZ_peek (k : Addr) : (s.setNZ r).peek k = s.peek k := rfl
end

section
variable (s : State) (p : Byte)
@[simp] theorem State.setP_a : (s.setP p).a = s.a := rfl
@[simp] theorem State.setP_x : (s.setP p).x = s.x := rfl
@[simp] theorem State.setP_y : (s.setP p).y = s.y := rfl
@[simp] theorem State.setP_sp : (s.setP p).sp = s.sp := rfl
@[simp] theorem State.setP_pc : (s.setP p).pc = s.pc := rfl
@[simp] theorem State.setP_n : (s.setP p).n = p.getLsbD 7 := rfl
@[simp] theorem State.setP_v : (s.setP p).v = p.getLsbD 6 := rfl
@[simp] theorem State.setP_d : (s.setP p).d = p.getLsbD 3 := rfl
@[simp] theorem State.setP_i : (s.setP p).i = p.getLsbD 2 := rfl
@[simp] theorem State.setP_z : (s.setP p).z = p.getLsbD 1 := rfl
@[simp] theorem State.setP_c : (s.setP p).c = p.getLsbD 0 := rfl
@[simp] theorem State.setP_mem : (s.setP p).mem = s.mem := rfl
@[simp] theorem State.setP_nmiPending : (s.setP p).nmiPending = s.nmiPending := rfl
@[simp] theorem State.setP_iPrev : (s.setP p).iPrev = s.iPrev := rfl
@[simp] theorem State.setP_platform : (s.setP p).platform = s.platform := rfl
@[simp] theorem State.setP_inputs : (s.setP p).inputs = s.inputs := rfl
@[simp] theorem State.setP_draws : (s.setP p).draws = s.draws := rfl
@[simp] theorem State.setP_choices : (s.setP p).choices = s.choices := rfl
@[simp] theorem State.setP_kindAt (k : Addr) : (s.setP p).kindAt k = s.kindAt k := rfl
@[simp] theorem State.setP_drawsAt (k : Addr) : (s.setP p).drawsAt k = s.drawsAt k := rfl
@[simp] theorem State.setP_peek (k : Addr) : (s.setP p).peek k = s.peek k := rfl
end

section
variable (s : State) (r : AluOut)
@[simp] theorem State.putAlu_a : (s.putAlu r).a = r.a := rfl
@[simp] theorem State.putAlu_x : (s.putAlu r).x = s.x := rfl
@[simp] theorem State.putAlu_y : (s.putAlu r).y = s.y := rfl
@[simp] theorem State.putAlu_sp : (s.putAlu r).sp = s.sp := rfl
@[simp] theorem State.putAlu_pc : (s.putAlu r).pc = s.pc := rfl
@[simp] theorem State.putAlu_n : (s.putAlu r).n = r.n := rfl
@[simp] theorem State.putAlu_v : (s.putAlu r).v = r.v := rfl
@[simp] theorem State.putAlu_d : (s.putAlu r).d = s.d := rfl
@[simp] theorem State.putAlu_i : (s.putAlu r).i = s.i := rfl
@[simp] theorem State.putAlu_z : (s.putAlu r).z = r.z := rfl
@[simp] theorem State.putAlu_c : (s.putAlu r).c = r.c := rfl
@[simp] theorem State.putAlu_mem : (s.putAlu r).mem = s.mem := rfl
@[simp] theorem State.putAlu_nmiPending : (s.putAlu r).nmiPending = s.nmiPending := rfl
@[simp] theorem State.putAlu_iPrev : (s.putAlu r).iPrev = s.iPrev := rfl
@[simp] theorem State.putAlu_platform : (s.putAlu r).platform = s.platform := rfl
@[simp] theorem State.putAlu_inputs : (s.putAlu r).inputs = s.inputs := rfl
@[simp] theorem State.putAlu_draws : (s.putAlu r).draws = s.draws := rfl
@[simp] theorem State.putAlu_choices : (s.putAlu r).choices = s.choices := rfl
@[simp] theorem State.putAlu_kindAt (k : Addr) : (s.putAlu r).kindAt k = s.kindAt k := rfl
@[simp] theorem State.putAlu_drawsAt (k : Addr) : (s.putAlu r).drawsAt k = s.drawsAt k := rfl
@[simp] theorem State.putAlu_peek (k : Addr) : (s.putAlu r).peek k = s.peek k := rfl
end

section
variable (s : State) (reg m : Byte)
@[simp] theorem State.compare_a : (s.compare reg m).a = s.a := rfl
@[simp] theorem State.compare_x : (s.compare reg m).x = s.x := rfl
@[simp] theorem State.compare_y : (s.compare reg m).y = s.y := rfl
@[simp] theorem State.compare_sp : (s.compare reg m).sp = s.sp := rfl
@[simp] theorem State.compare_pc : (s.compare reg m).pc = s.pc := rfl
@[simp] theorem State.compare_n : (s.compare reg m).n = (reg - m).msb := rfl
@[simp] theorem State.compare_v : (s.compare reg m).v = s.v := rfl
@[simp] theorem State.compare_d : (s.compare reg m).d = s.d := rfl
@[simp] theorem State.compare_i : (s.compare reg m).i = s.i := rfl
@[simp] theorem State.compare_z : (s.compare reg m).z = (reg - m == 0#8) := rfl
@[simp] theorem State.compare_c : (s.compare reg m).c = decide (m.toNat ≤ reg.toNat) := rfl
@[simp] theorem State.compare_mem : (s.compare reg m).mem = s.mem := rfl
@[simp] theorem State.compare_nmiPending : (s.compare reg m).nmiPending = s.nmiPending := rfl
@[simp] theorem State.compare_iPrev : (s.compare reg m).iPrev = s.iPrev := rfl
@[simp] theorem State.compare_platform : (s.compare reg m).platform = s.platform := rfl
@[simp] theorem State.compare_inputs : (s.compare reg m).inputs = s.inputs := rfl
@[simp] theorem State.compare_draws : (s.compare reg m).draws = s.draws := rfl
@[simp] theorem State.compare_choices : (s.compare reg m).choices = s.choices := rfl
@[simp] theorem State.compare_kindAt (k : Addr) : (s.compare reg m).kindAt k = s.kindAt k := rfl
@[simp] theorem State.compare_drawsAt (k : Addr) : (s.compare reg m).drawsAt k = s.drawsAt k := rfl
@[simp] theorem State.compare_peek (k : Addr) : (s.compare reg m).peek k = s.peek k := rfl
end

section
variable (s : State) (m : Byte)
@[simp] theorem State.bitTest_a : (s.bitTest m).a = s.a := rfl
@[simp] theorem State.bitTest_x : (s.bitTest m).x = s.x := rfl
@[simp] theorem State.bitTest_y : (s.bitTest m).y = s.y := rfl
@[simp] theorem State.bitTest_sp : (s.bitTest m).sp = s.sp := rfl
@[simp] theorem State.bitTest_pc : (s.bitTest m).pc = s.pc := rfl
@[simp] theorem State.bitTest_n : (s.bitTest m).n = m.getLsbD 7 := rfl
@[simp] theorem State.bitTest_v : (s.bitTest m).v = m.getLsbD 6 := rfl
@[simp] theorem State.bitTest_d : (s.bitTest m).d = s.d := rfl
@[simp] theorem State.bitTest_i : (s.bitTest m).i = s.i := rfl
@[simp] theorem State.bitTest_z : (s.bitTest m).z = (s.a &&& m == 0#8) := rfl
@[simp] theorem State.bitTest_c : (s.bitTest m).c = s.c := rfl
@[simp] theorem State.bitTest_mem : (s.bitTest m).mem = s.mem := rfl
@[simp] theorem State.bitTest_nmiPending : (s.bitTest m).nmiPending = s.nmiPending := rfl
@[simp] theorem State.bitTest_iPrev : (s.bitTest m).iPrev = s.iPrev := rfl
@[simp] theorem State.bitTest_platform : (s.bitTest m).platform = s.platform := rfl
@[simp] theorem State.bitTest_inputs : (s.bitTest m).inputs = s.inputs := rfl
@[simp] theorem State.bitTest_draws : (s.bitTest m).draws = s.draws := rfl
@[simp] theorem State.bitTest_choices : (s.bitTest m).choices = s.choices := rfl
@[simp] theorem State.bitTest_kindAt (k : Addr) : (s.bitTest m).kindAt k = s.kindAt k := rfl
@[simp] theorem State.bitTest_drawsAt (k : Addr) : (s.bitTest m).drawsAt k = s.drawsAt k := rfl
@[simp] theorem State.bitTest_peek (k : Addr) : (s.bitTest m).peek k = s.peek k := rfl
end

section
variable (s : State) (o : ShiftOut)
@[simp] theorem State.putShift_a : (s.putShift o).a = s.a := rfl
@[simp] theorem State.putShift_x : (s.putShift o).x = s.x := rfl
@[simp] theorem State.putShift_y : (s.putShift o).y = s.y := rfl
@[simp] theorem State.putShift_sp : (s.putShift o).sp = s.sp := rfl
@[simp] theorem State.putShift_pc : (s.putShift o).pc = s.pc := rfl
@[simp] theorem State.putShift_n : (s.putShift o).n = o.r.msb := rfl
@[simp] theorem State.putShift_v : (s.putShift o).v = s.v := rfl
@[simp] theorem State.putShift_d : (s.putShift o).d = s.d := rfl
@[simp] theorem State.putShift_i : (s.putShift o).i = s.i := rfl
@[simp] theorem State.putShift_z : (s.putShift o).z = (o.r == 0#8) := rfl
@[simp] theorem State.putShift_c : (s.putShift o).c = o.c := rfl
@[simp] theorem State.putShift_mem : (s.putShift o).mem = s.mem := rfl
@[simp] theorem State.putShift_nmiPending : (s.putShift o).nmiPending = s.nmiPending := rfl
@[simp] theorem State.putShift_iPrev : (s.putShift o).iPrev = s.iPrev := rfl
@[simp] theorem State.putShift_platform : (s.putShift o).platform = s.platform := rfl
@[simp] theorem State.putShift_inputs : (s.putShift o).inputs = s.inputs := rfl
@[simp] theorem State.putShift_draws : (s.putShift o).draws = s.draws := rfl
@[simp] theorem State.putShift_choices : (s.putShift o).choices = s.choices := rfl
@[simp] theorem State.putShift_kindAt (k : Addr) : (s.putShift o).kindAt k = s.kindAt k := rfl
@[simp] theorem State.putShift_drawsAt (k : Addr) : (s.putShift o).drawsAt k = s.drawsAt k := rfl
@[simp] theorem State.putShift_peek (k : Addr) : (s.putShift o).peek k = s.peek k := rfl
end

section
variable (s : State) (a : Addr)
@[simp] theorem State.afterRead_a : (s.afterRead a).a = s.a := rfl
@[simp] theorem State.afterRead_x : (s.afterRead a).x = s.x := rfl
@[simp] theorem State.afterRead_y : (s.afterRead a).y = s.y := rfl
@[simp] theorem State.afterRead_sp : (s.afterRead a).sp = s.sp := rfl
@[simp] theorem State.afterRead_pc : (s.afterRead a).pc = s.pc := rfl
@[simp] theorem State.afterRead_n : (s.afterRead a).n = s.n := rfl
@[simp] theorem State.afterRead_v : (s.afterRead a).v = s.v := rfl
@[simp] theorem State.afterRead_d : (s.afterRead a).d = s.d := rfl
@[simp] theorem State.afterRead_i : (s.afterRead a).i = s.i := rfl
@[simp] theorem State.afterRead_z : (s.afterRead a).z = s.z := rfl
@[simp] theorem State.afterRead_c : (s.afterRead a).c = s.c := rfl
@[simp] theorem State.afterRead_mem : (s.afterRead a).mem = s.mem := rfl
@[simp] theorem State.afterRead_nmiPending : (s.afterRead a).nmiPending = s.nmiPending := rfl
@[simp] theorem State.afterRead_iPrev : (s.afterRead a).iPrev = s.iPrev := rfl
@[simp] theorem State.afterRead_platform : (s.afterRead a).platform = s.platform := rfl
@[simp] theorem State.afterRead_inputs : (s.afterRead a).inputs = s.inputs := rfl
@[simp] theorem State.afterRead_draws : (s.afterRead a).draws = s.draws + s.drawsAt a := rfl
@[simp] theorem State.afterRead_choices : (s.afterRead a).choices = s.choices := rfl
@[simp] theorem State.afterRead_kindAt (k : Addr) : (s.afterRead a).kindAt k = s.kindAt k := rfl
@[simp] theorem State.afterRead_drawsAt (k : Addr) : (s.afterRead a).drawsAt k = s.drawsAt k := rfl
end

section
variable (s : State) (a : Addr) (b : Byte)
@[simp] theorem State.write_a : (s.write a b).a = s.a := rfl
@[simp] theorem State.write_x : (s.write a b).x = s.x := rfl
@[simp] theorem State.write_y : (s.write a b).y = s.y := rfl
@[simp] theorem State.write_sp : (s.write a b).sp = s.sp := rfl
@[simp] theorem State.write_pc : (s.write a b).pc = s.pc := rfl
@[simp] theorem State.write_n : (s.write a b).n = s.n := rfl
@[simp] theorem State.write_v : (s.write a b).v = s.v := rfl
@[simp] theorem State.write_d : (s.write a b).d = s.d := rfl
@[simp] theorem State.write_i : (s.write a b).i = s.i := rfl
@[simp] theorem State.write_z : (s.write a b).z = s.z := rfl
@[simp] theorem State.write_c : (s.write a b).c = s.c := rfl
@[simp] theorem State.write_nmiPending : (s.write a b).nmiPending = s.nmiPending := rfl
@[simp] theorem State.write_iPrev : (s.write a b).iPrev = s.iPrev := rfl
@[simp] theorem State.write_platform : (s.write a b).platform = s.platform := rfl
@[simp] theorem State.write_inputs : (s.write a b).inputs = s.inputs := rfl
@[simp] theorem State.write_draws : (s.write a b).draws = s.draws := rfl
@[simp] theorem State.write_choices : (s.write a b).choices = s.choices := rfl
@[simp] theorem State.write_kindAt (k : Addr) : (s.write a b).kindAt k = s.kindAt k := rfl
@[simp] theorem State.write_drawsAt (k : Addr) : (s.write a b).drawsAt k = s.drawsAt k := rfl
end

section
variable (s : State) (b : Byte)
@[simp] theorem State.push_a : (s.push b).a = s.a := rfl
@[simp] theorem State.push_x : (s.push b).x = s.x := rfl
@[simp] theorem State.push_y : (s.push b).y = s.y := rfl
@[simp] theorem State.push_sp : (s.push b).sp = s.sp - 1#8 := rfl
@[simp] theorem State.push_pc : (s.push b).pc = s.pc := rfl
@[simp] theorem State.push_n : (s.push b).n = s.n := rfl
@[simp] theorem State.push_v : (s.push b).v = s.v := rfl
@[simp] theorem State.push_d : (s.push b).d = s.d := rfl
@[simp] theorem State.push_i : (s.push b).i = s.i := rfl
@[simp] theorem State.push_z : (s.push b).z = s.z := rfl
@[simp] theorem State.push_c : (s.push b).c = s.c := rfl
@[simp] theorem State.push_mem : (s.push b).mem = (s.write (stackAddr s.sp) b).mem := rfl
@[simp] theorem State.push_nmiPending : (s.push b).nmiPending = s.nmiPending := rfl
@[simp] theorem State.push_iPrev : (s.push b).iPrev = s.iPrev := rfl
@[simp] theorem State.push_platform : (s.push b).platform = s.platform := rfl
@[simp] theorem State.push_inputs : (s.push b).inputs = s.inputs := rfl
@[simp] theorem State.push_draws : (s.push b).draws = s.draws := rfl
@[simp] theorem State.push_choices : (s.push b).choices = s.choices := rfl
@[simp] theorem State.push_kindAt (k : Addr) : (s.push b).kindAt k = s.kindAt k := rfl
@[simp] theorem State.push_drawsAt (k : Addr) : (s.push b).drawsAt k = s.drawsAt k := rfl
end

section
variable (s : State)
@[simp] theorem State.afterPull_a : (s.afterPull).a = s.a := rfl
@[simp] theorem State.afterPull_x : (s.afterPull).x = s.x := rfl
@[simp] theorem State.afterPull_y : (s.afterPull).y = s.y := rfl
@[simp] theorem State.afterPull_sp : (s.afterPull).sp = s.sp + 1#8 := rfl
@[simp] theorem State.afterPull_pc : (s.afterPull).pc = s.pc := rfl
@[simp] theorem State.afterPull_n : (s.afterPull).n = s.n := rfl
@[simp] theorem State.afterPull_v : (s.afterPull).v = s.v := rfl
@[simp] theorem State.afterPull_d : (s.afterPull).d = s.d := rfl
@[simp] theorem State.afterPull_i : (s.afterPull).i = s.i := rfl
@[simp] theorem State.afterPull_z : (s.afterPull).z = s.z := rfl
@[simp] theorem State.afterPull_c : (s.afterPull).c = s.c := rfl
@[simp] theorem State.afterPull_mem : (s.afterPull).mem = s.mem := rfl
@[simp] theorem State.afterPull_nmiPending : (s.afterPull).nmiPending = s.nmiPending := rfl
@[simp] theorem State.afterPull_iPrev : (s.afterPull).iPrev = s.iPrev := rfl
@[simp] theorem State.afterPull_platform : (s.afterPull).platform = s.platform := rfl
@[simp] theorem State.afterPull_inputs : (s.afterPull).inputs = s.inputs := rfl
@[simp] theorem State.afterPull_draws : (s.afterPull).draws = s.draws + s.drawsAt (stackAddr (s.sp + 1#8)) := rfl
@[simp] theorem State.afterPull_choices : (s.afterPull).choices = s.choices := rfl
@[simp] theorem State.afterPull_kindAt (k : Addr) : (s.afterPull).kindAt k = s.kindAt k := rfl
@[simp] theorem State.afterPull_drawsAt (k : Addr) : (s.afterPull).drawsAt k = s.drawsAt k := rfl
end

section
variable (s : State) (len : Addr)
@[simp] theorem State.start_a : (s.start len).a = s.a := rfl
@[simp] theorem State.start_x : (s.start len).x = s.x := rfl
@[simp] theorem State.start_y : (s.start len).y = s.y := rfl
@[simp] theorem State.start_sp : (s.start len).sp = s.sp := rfl
@[simp] theorem State.start_pc : (s.start len).pc = s.pc + len := rfl
@[simp] theorem State.start_n : (s.start len).n = s.n := rfl
@[simp] theorem State.start_v : (s.start len).v = s.v := rfl
@[simp] theorem State.start_d : (s.start len).d = s.d := rfl
@[simp] theorem State.start_i : (s.start len).i = s.i := rfl
@[simp] theorem State.start_z : (s.start len).z = s.z := rfl
@[simp] theorem State.start_c : (s.start len).c = s.c := rfl
@[simp] theorem State.start_mem : (s.start len).mem = s.mem := rfl
@[simp] theorem State.start_nmiPending : (s.start len).nmiPending = s.nmiPending := rfl
@[simp] theorem State.start_iPrev : (s.start len).iPrev = s.i := rfl
@[simp] theorem State.start_platform : (s.start len).platform = s.platform := rfl
@[simp] theorem State.start_inputs : (s.start len).inputs = s.inputs := rfl
@[simp] theorem State.start_draws : (s.start len).draws = s.draws := rfl
@[simp] theorem State.start_choices : (s.start len).choices = s.choices := rfl
@[simp] theorem State.start_kindAt (k : Addr) : (s.start len).kindAt k = s.kindAt k := rfl
@[simp] theorem State.start_drawsAt (k : Addr) : (s.start len).drawsAt k = s.drawsAt k := rfl
@[simp] theorem State.start_peek (k : Addr) : (s.start len).peek k = s.peek k := rfl
end

section
variable (s : State)
@[simp] theorem State.sampled_a : (s.sampled).a = s.a := rfl
@[simp] theorem State.sampled_x : (s.sampled).x = s.x := rfl
@[simp] theorem State.sampled_y : (s.sampled).y = s.y := rfl
@[simp] theorem State.sampled_sp : (s.sampled).sp = s.sp := rfl
@[simp] theorem State.sampled_pc : (s.sampled).pc = s.pc := rfl
@[simp] theorem State.sampled_n : (s.sampled).n = s.n := rfl
@[simp] theorem State.sampled_v : (s.sampled).v = s.v := rfl
@[simp] theorem State.sampled_d : (s.sampled).d = s.d := rfl
@[simp] theorem State.sampled_i : (s.sampled).i = s.i := rfl
@[simp] theorem State.sampled_z : (s.sampled).z = s.z := rfl
@[simp] theorem State.sampled_c : (s.sampled).c = s.c := rfl
@[simp] theorem State.sampled_mem : (s.sampled).mem = s.mem := rfl
@[simp] theorem State.sampled_nmiPending : (s.sampled).nmiPending = s.nmiPending := rfl
@[simp] theorem State.sampled_iPrev : (s.sampled).iPrev = s.iPrev := rfl
@[simp] theorem State.sampled_platform : (s.sampled).platform = s.platform := rfl
@[simp] theorem State.sampled_inputs : (s.sampled).inputs = s.inputs.tail := rfl
@[simp] theorem State.sampled_draws : (s.sampled).draws = s.draws := rfl
@[simp] theorem State.sampled_choices : (s.sampled).choices = s.choices := rfl
@[simp] theorem State.sampled_kindAt (k : Addr) : (s.sampled).kindAt k = s.kindAt k := rfl
@[simp] theorem State.sampled_drawsAt (k : Addr) : (s.sampled).drawsAt k = s.drawsAt k := rfl
@[simp] theorem State.sampled_peek (k : Addr) : (s.sampled).peek k = s.peek k := rfl
end

/-- A store reaches memory only at a ram address (20_memory.md R57). -/
theorem State.write_mem_ram (s : State) (a : Addr) (b : Byte) (h : s.kindAt a = .ram) :
    (s.write a b).mem = Memory.write s.mem a.toNat b := by simp [State.write, h]

/-- A store elsewhere is ignored (20_memory.md R57, U6). -/
theorem State.write_mem_other (s : State) (a : Addr) (b : Byte) (h : s.kindAt a ≠ .ram) :
    (s.write a b).mem = s.mem := by
  cases hk : s.kindAt a <;> simp_all [State.write]

/-- A read of ram or rom gives the stored byte. -/
theorem State.peek_mapped (s : State) (a : Addr) (h : s.kindAt a ≠ .unmapped) :
    s.peek a = Memory.read s.mem a.toNat := by
  cases hk : s.kindAt a <;> simp_all [State.peek]

/-- A read of an unmapped address gives a fresh draw (U5). -/
theorem State.peek_unmapped (s : State) (a : Addr) (h : s.kindAt a = .unmapped) :
    s.peek a = Config.freeByte s.draws := by simp [State.peek, h]

end Sys2Proof.Machine
end

