-- ==== Sys2Proof/Laws/Ops.lean ====
section
/-! SUPPORT. What each shared operation can do, said once: the guard on device addresses, reads in
sequence, the stack, the entry to an interrupt, the return from one and the reset sequence. -/

namespace Sys2Proof.Machine

/-! ## The guard -/

@[simp] theorem State.clear_nil (s : State) : s.clear [] := by simp [State.clear]

@[simp] theorem State.clear_cons (s : State) (a : Addr) (as : List Addr) :
    s.clear (a :: as) ↔ s.kindAt a ≠ .device ∧ s.clear as := by simp [State.clear]

@[simp] theorem State.clear_append (s : State) (as bs : List Addr) :
    s.clear (as ++ bs) ↔ s.clear as ∧ s.clear bs := by
  simp only [State.clear, List.mem_append]
  exact ⟨fun h => ⟨fun a ha => h a (.inl ha), fun a ha => h a (.inr ha)⟩,
    fun h a ha => ha.elim (h.1 a) (h.2 a)⟩

theorem State.deviceFree.clear {s : State} (h : s.deviceFree) (as : List Addr) : s.clear as :=
  fun a _ => h a

theorem State.blocked_eq_none (s : State) (as : List Addr) : s.blocked as = none ↔ s.clear as := by
  induction as with
  | nil => simp [State.blocked]
  | cons a as ih =>
    by_cases h : s.kindAt a = .device <;> simp [State.blocked, h, ih]

theorem State.blocked_some {s : State} {as : List Addr} {a : Addr} (h : s.blocked as = some a) :
    a ∈ as ∧ s.kindAt a = .device := by
  induction as with
  | nil => simp [State.blocked] at h
  | cons b as ih =>
    by_cases hb : s.kindAt b = .device
    · simp only [State.blocked, hb, if_true, Option.some.injEq] at h
      exact h ▸ ⟨by simp, hb⟩
    · simp only [State.blocked, hb, if_false] at h
      exact ⟨by simp [(ih h).1], (ih h).2⟩

/-- Which address is the first device's depends on the map alone. -/
theorem State.blocked_congr {s t : State} (h : t.platform = s.platform) (as : List Addr) :
    t.blocked as = s.blocked as := by
  have hk : ∀ a, t.kindAt a = s.kindAt a := fun a => by simp only [State.kindAt, h]
  induction as with
  | nil => rfl
  | cons a as ih => simp only [State.blocked, ih, hk]

theorem State.blocked_append (s : State) (as bs : List Addr) :
    s.blocked (as ++ bs) = (s.blocked as).or (s.blocked bs) := by
  induction as with
  | nil => simp [State.blocked]
  | cons a as ih => by_cases h : s.kindAt a = .device <;> simp [State.blocked, h, ih]

/-- With no device among its addresses, a guarded step does as it says. -/
theorem State.guarding_clear (s : State) {as : List Addr} (h : s.clear as) (r : Result) :
    s.guarding as r = r := by
  simp [State.guarding, (s.blocked_eq_none as).mpr h]

theorem State.touching_clear {s : State} {as : List Addr} (h : s.clear as) (t : State) :
    s.touching as t = .next t :=
  s.guarding_clear h _

/-- All that a guarded step can do when it answers a next state. -/
theorem State.guarding_next {s : State} {as : List Addr} {r : Result} {u : State} :
    s.guarding as r = .next u ↔ s.clear as ∧ r = .next u := by
  rw [← State.blocked_eq_none]
  unfold State.guarding
  cases hb : s.blocked as <;> simp

theorem State.touching_next {s : State} {as : List Addr} {t u : State} :
    s.touching as t = .next u ↔ s.clear as ∧ u = t := by
  rw [State.touching, State.guarding_next, Host.Outcome.next.injEq, eq_comm]

/-- All that a guarded step can do when one of its addresses is a device's. -/
theorem State.guarding_device {s : State} {as : List Addr} (h : ¬ s.clear as) (r : Result) :
    ∃ a ∈ as, s.kindAt a = .device ∧ s.guarding as r = .refused (.deviceAccess a) := by
  rw [← State.blocked_eq_none] at h
  obtain ⟨a, ha⟩ := Option.ne_none_iff_exists'.mp h
  obtain ⟨hm, hd⟩ := State.blocked_some ha
  exact ⟨a, hm, hd, by simp [State.guarding, ha]⟩

theorem State.touching_device {s : State} {as : List Addr} (h : ¬ s.clear as) (t : State) :
    ∃ a ∈ as, s.kindAt a = .device ∧ s.touching as t = .refused (.deviceAccess a) :=
  State.guarding_device h _

/-! ## Reads in sequence -/

/-- Reads change the count of draws and nothing else. -/
theorem State.afterReads_eq (s : State) (as : List Addr) :
    s.afterReads as = { s with draws := s.draws + (as.map s.drawsAt).sum } := by
  induction as generalizing s with
  | nil => rfl
  | cons a as ih =>
    rw [State.afterReads, ih, List.map_cons, List.sum_cons, ← Nat.add_assoc]
    rfl

/-- A read of ram or rom draws nothing. -/
theorem State.drawsAt_mapped (s : State) (a : Addr) (h : s.kindAt a ≠ .unmapped) : s.drawsAt a = 0 := by
  cases hk : s.kindAt a <;> simp_all [State.drawsAt]

/-- A read of ram or rom leaves the state as it is. -/
theorem State.afterRead_mapped (s : State) (a : Addr) (h : s.kindAt a ≠ .unmapped) :
    s.afterRead a = s := by
  simp [State.afterRead, s.drawsAt_mapped a h]

/-! ## The stack -/

@[simp] theorem hiByte_append (hi lo : Byte) : hiByte (hi ++ lo) = hi :=
  BitVec.extractLsb'_append_eq_left

@[simp] theorem loByte_append (hi lo : Byte) : loByte (hi ++ lo) = lo :=
  BitVec.extractLsb'_append_eq_right

/-- The address two bytes make has them as its high and low bytes. -/
@[simp] theorem hi_append_lo (a : Addr) : hiByte a ++ loByte a = a := extract_append a

@[simp] theorem hiByte_stackAddr (p : Byte) : hiByte (stackAddr p) = 0x01#8 := hiByte_append _ _

@[simp] theorem loByte_stackAddr (p : Byte) : loByte (stackAddr p) = p := loByte_append _ _

@[simp] theorem stackAddr_inj {p q : Byte} : stackAddr p = stackAddr q ↔ p = q :=
  ⟨fun h => by simpa using congrArg loByte h, fun h => h ▸ rfl⟩

/-! ## Entry and return -/

/-- All that an entry can do when it answers a next state (60_exceptions.md R303). -/
theorem interrupt_next {vector : Addr} {b : Bool} {s t : State} :
    interrupt vector b s = .next t ↔
      s.clear (s.entryAddrs vector) ∧
        t = { (s.stacked b).after16 vector with pc := (s.stacked b).peek16 vector, iPrev := true } := by
  simp [interrupt, State.touching_next]

/-- All that a return can do when it answers a next state (R181). -/
theorem returnFromInterrupt_next {s t : State} :
    returnFromInterrupt s = .next t ↔
      s.clear (s.pc :: s.pullSpan 3) ∧
        t = { (s.afterPull.setP s.pulled).afterPull.afterPull with
          pc := (s.afterPull.setP s.pulled).pulledAddr
          iPrev := (s.afterPull.setP s.pulled).i } := by
  simp [returnFromInterrupt, State.touching_next]

/-- All that the reset sequence can do when it answers a next state (R340). -/
theorem resetSequence_next {s t : State} :
    resetSequence s = .next t ↔
      s.clear (s.entryAddrs resetVector) ∧
        t = { s.after16 resetVector with
          sp := s.sp - 3#8, i := true, nmiPending := false, iPrev := true, pc := s.peek16 resetVector } := by
  rw [resetSequence, State.touching_next]

end Sys2Proof.Machine
end

