-- ==== Sys2Proof/Laws/Operands.lean ====
section
/-! SUPPORT. What each shape of an instruction can do, said once. -/

namespace Sys2Proof.Machine

theorem implied_next {f : State → State} {s t : State} :
    implied f s = .next t ↔ s.clear [s.pc + 1#16] ∧ t = f (s.start 1#16) :=
  State.touching_next

theorem immediate_next {v : Byte} {f : Byte → State → State} {s t : State} :
    immediate v f s = .next t ↔ t = f v (s.start 2#16) :=
  ⟨fun h => (Host.Outcome.next.inj h).symm, fun h => h ▸ rfl⟩

/-- The address of an operand does not depend on where PC and I_prev stand. -/
@[simp] theorem State.start_ea (s : State) (len : Addr) (m : MemMode) : (s.start len).ea m = s.ea m := by
  cases m <;> rfl

@[simp] theorem State.start_touches (s : State) (len : Addr) (m : MemMode) :
    (s.start len).touches m = s.touches m := by cases m <;> rfl

@[simp] theorem State.start_clear (s : State) (len : Addr) (as : List Addr) :
    (s.start len).clear as ↔ s.clear as := Iff.rfl

@[simp] theorem State.start_value (s : State) (len : Addr) (m : MemMode) :
    (s.start len).value m = s.value m := by cases m <;> rfl

/-- The operand is read with an effect on the count of draws alone. -/
theorem State.start_afterValue (s : State) (len : Addr) (m : MemMode) :
    (s.start len).afterValue m = { s.start len with draws := (s.afterValue m).draws } := by
  cases m <;> rfl

theorem State.start_afterPointer (s : State) (len : Addr) (m : MemMode) :
    (s.start len).afterPointer m = { s.start len with draws := (s.afterPointer m).draws } := by
  cases m <;> rfl

theorem reading_next {m : MemMode} {f : Byte → State → State} {s t : State} :
    reading m f s = .next t ↔
      s.clear (s.touches m) ∧ t = f (s.value m) ((s.start (modeLen m)).afterValue m) := by
  simp [reading, State.touching_next]

theorem storing_next {m : MemMode} {reg : State → Byte} {s t : State} :
    storing m reg s = .next t ↔
      s.clear (s.touches m) ∧
        t = ((s.start (modeLen m)).afterPointer m).write (s.ea m) (reg (s.start (modeLen m))) := by
  simp [storing, State.touching_next]

theorem modifying_next {m : MemMode} {result : State → Byte → Byte} {flags : Byte → State → State}
    {s t : State} :
    modifying m result flags s = .next t ↔
      s.clear (s.touches m) ∧
        t = flags (s.value m) (((s.start (modeLen m)).afterValue m).write (s.ea m)
          (result (s.start (modeLen m)) (s.value m))) := by
  simp [modifying, State.touching_next]

/-- A branch always ends in a next state, and changes PC and I_prev alone (43_branch.md R160). -/
theorem branch_next {cond : State → Bool} {rel : Byte} {s t : State} :
    branch cond rel s = .next t ↔
      t = { s.start 2#16 with
        pc := if cond (s.start 2#16) then branchTarget rel (s.pc + 2#16) else s.pc + 2#16 } :=
  ⟨fun h => (Host.Outcome.next.inj h).symm, fun h => h ▸ rfl⟩

end Sys2Proof.Machine
end

