-- ==== Sys2Proof/Laws/PerInstr.lean ====
section
/-! SUPPORT. Facts about every instruction as syntax, one lemma for each constructor. -/

namespace Sys2Proof.Laws

/-- How many operand bytes an instruction of the mode has (30_encoding.md R81). -/
def operandBytes : Mode → Nat
  | .IMP | .ACC => 0
  | .IMM | .ZP | .ZPX | .ZPY | .IZX | .IZY | .REL => 1
  | .ABS | .ABX | .ABY | .IND => 2

/-- The length of an instruction is that of its mode (R80, R81). -/
def EncodedLength.Statement (i : Instr) : Prop := i.length = 1 + operandBytes i.mode

/-- The instruction is one that can be written (R105, R106). -/
def FormExists.Statement (i : Instr) : Prop := i.wellFormed = true

theorem EncodedLength.adcImm (v : Byte) : EncodedLength.Statement (.adcImm v) := rfl
theorem EncodedLength.adcZp (z : Byte) : EncodedLength.Statement (.adcZp z) := rfl
theorem EncodedLength.adcZpx (z : Byte) : EncodedLength.Statement (.adcZpx z) := rfl
theorem EncodedLength.adcAbs (addr : Addr) : EncodedLength.Statement (.adcAbs addr) := rfl
theorem EncodedLength.adcAbx (addr : Addr) : EncodedLength.Statement (.adcAbx addr) := rfl
theorem EncodedLength.adcAby (addr : Addr) : EncodedLength.Statement (.adcAby addr) := rfl
theorem EncodedLength.adcIzx (z : Byte) : EncodedLength.Statement (.adcIzx z) := rfl
theorem EncodedLength.adcIzy (z : Byte) : EncodedLength.Statement (.adcIzy z) := rfl
theorem EncodedLength.andImm (v : Byte) : EncodedLength.Statement (.andImm v) := rfl
theorem EncodedLength.andZp (z : Byte) : EncodedLength.Statement (.andZp z) := rfl
theorem EncodedLength.andZpx (z : Byte) : EncodedLength.Statement (.andZpx z) := rfl
theorem EncodedLength.andAbs (addr : Addr) : EncodedLength.Statement (.andAbs addr) := rfl
theorem EncodedLength.andAbx (addr : Addr) : EncodedLength.Statement (.andAbx addr) := rfl
theorem EncodedLength.andAby (addr : Addr) : EncodedLength.Statement (.andAby addr) := rfl
theorem EncodedLength.andIzx (z : Byte) : EncodedLength.Statement (.andIzx z) := rfl
theorem EncodedLength.andIzy (z : Byte) : EncodedLength.Statement (.andIzy z) := rfl
theorem EncodedLength.aslAcc : EncodedLength.Statement .aslAcc := rfl
theorem EncodedLength.aslZp (z : Byte) : EncodedLength.Statement (.aslZp z) := rfl
theorem EncodedLength.aslZpx (z : Byte) : EncodedLength.Statement (.aslZpx z) := rfl
theorem EncodedLength.aslAbs (addr : Addr) : EncodedLength.Statement (.aslAbs addr) := rfl
theorem EncodedLength.aslAbx (addr : Addr) : EncodedLength.Statement (.aslAbx addr) := rfl
theorem EncodedLength.bcc (rel : Byte) : EncodedLength.Statement (.bcc rel) := rfl
theorem EncodedLength.bcs (rel : Byte) : EncodedLength.Statement (.bcs rel) := rfl
theorem EncodedLength.beq (rel : Byte) : EncodedLength.Statement (.beq rel) := rfl
theorem EncodedLength.bitZp (z : Byte) : EncodedLength.Statement (.bitZp z) := rfl
theorem EncodedLength.bitAbs (addr : Addr) : EncodedLength.Statement (.bitAbs addr) := rfl
theorem EncodedLength.bmi (rel : Byte) : EncodedLength.Statement (.bmi rel) := rfl
theorem EncodedLength.bne (rel : Byte) : EncodedLength.Statement (.bne rel) := rfl
theorem EncodedLength.bpl (rel : Byte) : EncodedLength.Statement (.bpl rel) := rfl
theorem EncodedLength.brk : EncodedLength.Statement .brk := rfl
theorem EncodedLength.bvc (rel : Byte) : EncodedLength.Statement (.bvc rel) := rfl
theorem EncodedLength.bvs (rel : Byte) : EncodedLength.Statement (.bvs rel) := rfl
theorem EncodedLength.clc : EncodedLength.Statement .clc := rfl
theorem EncodedLength.cld : EncodedLength.Statement .cld := rfl
theorem EncodedLength.cli : EncodedLength.Statement .cli := rfl
theorem EncodedLength.clv : EncodedLength.Statement .clv := rfl
theorem EncodedLength.cmpImm (v : Byte) : EncodedLength.Statement (.cmpImm v) := rfl
theorem EncodedLength.cmpZp (z : Byte) : EncodedLength.Statement (.cmpZp z) := rfl
theorem EncodedLength.cmpZpx (z : Byte) : EncodedLength.Statement (.cmpZpx z) := rfl
theorem EncodedLength.cmpAbs (addr : Addr) : EncodedLength.Statement (.cmpAbs addr) := rfl
theorem EncodedLength.cmpAbx (addr : Addr) : EncodedLength.Statement (.cmpAbx addr) := rfl
theorem EncodedLength.cmpAby (addr : Addr) : EncodedLength.Statement (.cmpAby addr) := rfl
theorem EncodedLength.cmpIzx (z : Byte) : EncodedLength.Statement (.cmpIzx z) := rfl
theorem EncodedLength.cmpIzy (z : Byte) : EncodedLength.Statement (.cmpIzy z) := rfl
theorem EncodedLength.cpxImm (v : Byte) : EncodedLength.Statement (.cpxImm v) := rfl
theorem EncodedLength.cpxZp (z : Byte) : EncodedLength.Statement (.cpxZp z) := rfl
theorem EncodedLength.cpxAbs (addr : Addr) : EncodedLength.Statement (.cpxAbs addr) := rfl
theorem EncodedLength.cpyImm (v : Byte) : EncodedLength.Statement (.cpyImm v) := rfl
theorem EncodedLength.cpyZp (z : Byte) : EncodedLength.Statement (.cpyZp z) := rfl
theorem EncodedLength.cpyAbs (addr : Addr) : EncodedLength.Statement (.cpyAbs addr) := rfl
theorem EncodedLength.decZp (z : Byte) : EncodedLength.Statement (.decZp z) := rfl
theorem EncodedLength.decZpx (z : Byte) : EncodedLength.Statement (.decZpx z) := rfl
theorem EncodedLength.decAbs (addr : Addr) : EncodedLength.Statement (.decAbs addr) := rfl
theorem EncodedLength.decAbx (addr : Addr) : EncodedLength.Statement (.decAbx addr) := rfl
theorem EncodedLength.dex : EncodedLength.Statement .dex := rfl
theorem EncodedLength.dey : EncodedLength.Statement .dey := rfl
theorem EncodedLength.eorImm (v : Byte) : EncodedLength.Statement (.eorImm v) := rfl
theorem EncodedLength.eorZp (z : Byte) : EncodedLength.Statement (.eorZp z) := rfl
theorem EncodedLength.eorZpx (z : Byte) : EncodedLength.Statement (.eorZpx z) := rfl
theorem EncodedLength.eorAbs (addr : Addr) : EncodedLength.Statement (.eorAbs addr) := rfl
theorem EncodedLength.eorAbx (addr : Addr) : EncodedLength.Statement (.eorAbx addr) := rfl
theorem EncodedLength.eorAby (addr : Addr) : EncodedLength.Statement (.eorAby addr) := rfl
theorem EncodedLength.eorIzx (z : Byte) : EncodedLength.Statement (.eorIzx z) := rfl
theorem EncodedLength.eorIzy (z : Byte) : EncodedLength.Statement (.eorIzy z) := rfl
theorem EncodedLength.incZp (z : Byte) : EncodedLength.Statement (.incZp z) := rfl
theorem EncodedLength.incZpx (z : Byte) : EncodedLength.Statement (.incZpx z) := rfl
theorem EncodedLength.incAbs (addr : Addr) : EncodedLength.Statement (.incAbs addr) := rfl
theorem EncodedLength.incAbx (addr : Addr) : EncodedLength.Statement (.incAbx addr) := rfl
theorem EncodedLength.inx : EncodedLength.Statement .inx := rfl
theorem EncodedLength.iny : EncodedLength.Statement .iny := rfl
theorem EncodedLength.jmpAbs (addr : Addr) : EncodedLength.Statement (.jmpAbs addr) := rfl
theorem EncodedLength.jmpInd (addr : Addr) : EncodedLength.Statement (.jmpInd addr) := rfl
theorem EncodedLength.jsr (addr : Addr) : EncodedLength.Statement (.jsr addr) := rfl
theorem EncodedLength.ldaImm (v : Byte) : EncodedLength.Statement (.ldaImm v) := rfl
theorem EncodedLength.ldaZp (z : Byte) : EncodedLength.Statement (.ldaZp z) := rfl
theorem EncodedLength.ldaZpx (z : Byte) : EncodedLength.Statement (.ldaZpx z) := rfl
theorem EncodedLength.ldaAbs (addr : Addr) : EncodedLength.Statement (.ldaAbs addr) := rfl
theorem EncodedLength.ldaAbx (addr : Addr) : EncodedLength.Statement (.ldaAbx addr) := rfl
theorem EncodedLength.ldaAby (addr : Addr) : EncodedLength.Statement (.ldaAby addr) := rfl
theorem EncodedLength.ldaIzx (z : Byte) : EncodedLength.Statement (.ldaIzx z) := rfl
theorem EncodedLength.ldaIzy (z : Byte) : EncodedLength.Statement (.ldaIzy z) := rfl
theorem EncodedLength.ldxImm (v : Byte) : EncodedLength.Statement (.ldxImm v) := rfl
theorem EncodedLength.ldxZp (z : Byte) : EncodedLength.Statement (.ldxZp z) := rfl
theorem EncodedLength.ldxZpy (z : Byte) : EncodedLength.Statement (.ldxZpy z) := rfl
theorem EncodedLength.ldxAbs (addr : Addr) : EncodedLength.Statement (.ldxAbs addr) := rfl
theorem EncodedLength.ldxAby (addr : Addr) : EncodedLength.Statement (.ldxAby addr) := rfl
theorem EncodedLength.ldyImm (v : Byte) : EncodedLength.Statement (.ldyImm v) := rfl
theorem EncodedLength.ldyZp (z : Byte) : EncodedLength.Statement (.ldyZp z) := rfl
theorem EncodedLength.ldyZpx (z : Byte) : EncodedLength.Statement (.ldyZpx z) := rfl
theorem EncodedLength.ldyAbs (addr : Addr) : EncodedLength.Statement (.ldyAbs addr) := rfl
theorem EncodedLength.ldyAbx (addr : Addr) : EncodedLength.Statement (.ldyAbx addr) := rfl
theorem EncodedLength.lsrAcc : EncodedLength.Statement .lsrAcc := rfl
theorem EncodedLength.lsrZp (z : Byte) : EncodedLength.Statement (.lsrZp z) := rfl
theorem EncodedLength.lsrZpx (z : Byte) : EncodedLength.Statement (.lsrZpx z) := rfl
theorem EncodedLength.lsrAbs (addr : Addr) : EncodedLength.Statement (.lsrAbs addr) := rfl
theorem EncodedLength.lsrAbx (addr : Addr) : EncodedLength.Statement (.lsrAbx addr) := rfl
theorem EncodedLength.nop : EncodedLength.Statement .nop := rfl
theorem EncodedLength.oraImm (v : Byte) : EncodedLength.Statement (.oraImm v) := rfl
theorem EncodedLength.oraZp (z : Byte) : EncodedLength.Statement (.oraZp z) := rfl
theorem EncodedLength.oraZpx (z : Byte) : EncodedLength.Statement (.oraZpx z) := rfl
theorem EncodedLength.oraAbs (addr : Addr) : EncodedLength.Statement (.oraAbs addr) := rfl
theorem EncodedLength.oraAbx (addr : Addr) : EncodedLength.Statement (.oraAbx addr) := rfl
theorem EncodedLength.oraAby (addr : Addr) : EncodedLength.Statement (.oraAby addr) := rfl
theorem EncodedLength.oraIzx (z : Byte) : EncodedLength.Statement (.oraIzx z) := rfl
theorem EncodedLength.oraIzy (z : Byte) : EncodedLength.Statement (.oraIzy z) := rfl
theorem EncodedLength.pha : EncodedLength.Statement .pha := rfl
theorem EncodedLength.php : EncodedLength.Statement .php := rfl
theorem EncodedLength.pla : EncodedLength.Statement .pla := rfl
theorem EncodedLength.plp : EncodedLength.Statement .plp := rfl
theorem EncodedLength.rolAcc : EncodedLength.Statement .rolAcc := rfl
theorem EncodedLength.rolZp (z : Byte) : EncodedLength.Statement (.rolZp z) := rfl
theorem EncodedLength.rolZpx (z : Byte) : EncodedLength.Statement (.rolZpx z) := rfl
theorem EncodedLength.rolAbs (addr : Addr) : EncodedLength.Statement (.rolAbs addr) := rfl
theorem EncodedLength.rolAbx (addr : Addr) : EncodedLength.Statement (.rolAbx addr) := rfl
theorem EncodedLength.rorAcc : EncodedLength.Statement .rorAcc := rfl
theorem EncodedLength.rorZp (z : Byte) : EncodedLength.Statement (.rorZp z) := rfl
theorem EncodedLength.rorZpx (z : Byte) : EncodedLength.Statement (.rorZpx z) := rfl
theorem EncodedLength.rorAbs (addr : Addr) : EncodedLength.Statement (.rorAbs addr) := rfl
theorem EncodedLength.rorAbx (addr : Addr) : EncodedLength.Statement (.rorAbx addr) := rfl
theorem EncodedLength.rti : EncodedLength.Statement .rti := rfl
theorem EncodedLength.rts : EncodedLength.Statement .rts := rfl
theorem EncodedLength.sbcImm (v : Byte) : EncodedLength.Statement (.sbcImm v) := rfl
theorem EncodedLength.sbcZp (z : Byte) : EncodedLength.Statement (.sbcZp z) := rfl
theorem EncodedLength.sbcZpx (z : Byte) : EncodedLength.Statement (.sbcZpx z) := rfl
theorem EncodedLength.sbcAbs (addr : Addr) : EncodedLength.Statement (.sbcAbs addr) := rfl
theorem EncodedLength.sbcAbx (addr : Addr) : EncodedLength.Statement (.sbcAbx addr) := rfl
theorem EncodedLength.sbcAby (addr : Addr) : EncodedLength.Statement (.sbcAby addr) := rfl
theorem EncodedLength.sbcIzx (z : Byte) : EncodedLength.Statement (.sbcIzx z) := rfl
theorem EncodedLength.sbcIzy (z : Byte) : EncodedLength.Statement (.sbcIzy z) := rfl
theorem EncodedLength.sec : EncodedLength.Statement .sec := rfl
theorem EncodedLength.sed : EncodedLength.Statement .sed := rfl
theorem EncodedLength.sei : EncodedLength.Statement .sei := rfl
theorem EncodedLength.staZp (z : Byte) : EncodedLength.Statement (.staZp z) := rfl
theorem EncodedLength.staZpx (z : Byte) : EncodedLength.Statement (.staZpx z) := rfl
theorem EncodedLength.staAbs (addr : Addr) : EncodedLength.Statement (.staAbs addr) := rfl
theorem EncodedLength.staAbx (addr : Addr) : EncodedLength.Statement (.staAbx addr) := rfl
theorem EncodedLength.staAby (addr : Addr) : EncodedLength.Statement (.staAby addr) := rfl
theorem EncodedLength.staIzx (z : Byte) : EncodedLength.Statement (.staIzx z) := rfl
theorem EncodedLength.staIzy (z : Byte) : EncodedLength.Statement (.staIzy z) := rfl
theorem EncodedLength.stxZp (z : Byte) : EncodedLength.Statement (.stxZp z) := rfl
theorem EncodedLength.stxZpy (z : Byte) : EncodedLength.Statement (.stxZpy z) := rfl
theorem EncodedLength.stxAbs (addr : Addr) : EncodedLength.Statement (.stxAbs addr) := rfl
theorem EncodedLength.styZp (z : Byte) : EncodedLength.Statement (.styZp z) := rfl
theorem EncodedLength.styZpx (z : Byte) : EncodedLength.Statement (.styZpx z) := rfl
theorem EncodedLength.styAbs (addr : Addr) : EncodedLength.Statement (.styAbs addr) := rfl
theorem EncodedLength.tax : EncodedLength.Statement .tax := rfl
theorem EncodedLength.tay : EncodedLength.Statement .tay := rfl
theorem EncodedLength.tya : EncodedLength.Statement .tya := rfl
theorem EncodedLength.tsx : EncodedLength.Statement .tsx := rfl
theorem EncodedLength.txa : EncodedLength.Statement .txa := rfl
theorem EncodedLength.txs : EncodedLength.Statement .txs := rfl

theorem FormExists.adcImm (v : Byte) : FormExists.Statement (.adcImm v) := decide_eq_true v.isLt
theorem FormExists.adcZp (z : Byte) : FormExists.Statement (.adcZp z) := decide_eq_true z.isLt
theorem FormExists.adcZpx (z : Byte) : FormExists.Statement (.adcZpx z) := decide_eq_true z.isLt
theorem FormExists.adcAbs (addr : Addr) : FormExists.Statement (.adcAbs addr) := decide_eq_true addr.isLt
theorem FormExists.adcAbx (addr : Addr) : FormExists.Statement (.adcAbx addr) := decide_eq_true addr.isLt
theorem FormExists.adcAby (addr : Addr) : FormExists.Statement (.adcAby addr) := decide_eq_true addr.isLt
theorem FormExists.adcIzx (z : Byte) : FormExists.Statement (.adcIzx z) := decide_eq_true z.isLt
theorem FormExists.adcIzy (z : Byte) : FormExists.Statement (.adcIzy z) := decide_eq_true z.isLt
theorem FormExists.andImm (v : Byte) : FormExists.Statement (.andImm v) := decide_eq_true v.isLt
theorem FormExists.andZp (z : Byte) : FormExists.Statement (.andZp z) := decide_eq_true z.isLt
theorem FormExists.andZpx (z : Byte) : FormExists.Statement (.andZpx z) := decide_eq_true z.isLt
theorem FormExists.andAbs (addr : Addr) : FormExists.Statement (.andAbs addr) := decide_eq_true addr.isLt
theorem FormExists.andAbx (addr : Addr) : FormExists.Statement (.andAbx addr) := decide_eq_true addr.isLt
theorem FormExists.andAby (addr : Addr) : FormExists.Statement (.andAby addr) := decide_eq_true addr.isLt
theorem FormExists.andIzx (z : Byte) : FormExists.Statement (.andIzx z) := decide_eq_true z.isLt
theorem FormExists.andIzy (z : Byte) : FormExists.Statement (.andIzy z) := decide_eq_true z.isLt
theorem FormExists.aslAcc : FormExists.Statement .aslAcc := rfl
theorem FormExists.aslZp (z : Byte) : FormExists.Statement (.aslZp z) := decide_eq_true z.isLt
theorem FormExists.aslZpx (z : Byte) : FormExists.Statement (.aslZpx z) := decide_eq_true z.isLt
theorem FormExists.aslAbs (addr : Addr) : FormExists.Statement (.aslAbs addr) := decide_eq_true addr.isLt
theorem FormExists.aslAbx (addr : Addr) : FormExists.Statement (.aslAbx addr) := decide_eq_true addr.isLt
theorem FormExists.bcc (rel : Byte) : FormExists.Statement (.bcc rel) := decide_eq_true rel.isLt
theorem FormExists.bcs (rel : Byte) : FormExists.Statement (.bcs rel) := decide_eq_true rel.isLt
theorem FormExists.beq (rel : Byte) : FormExists.Statement (.beq rel) := decide_eq_true rel.isLt
theorem FormExists.bitZp (z : Byte) : FormExists.Statement (.bitZp z) := decide_eq_true z.isLt
theorem FormExists.bitAbs (addr : Addr) : FormExists.Statement (.bitAbs addr) := decide_eq_true addr.isLt
theorem FormExists.bmi (rel : Byte) : FormExists.Statement (.bmi rel) := decide_eq_true rel.isLt
theorem FormExists.bne (rel : Byte) : FormExists.Statement (.bne rel) := decide_eq_true rel.isLt
theorem FormExists.bpl (rel : Byte) : FormExists.Statement (.bpl rel) := decide_eq_true rel.isLt
theorem FormExists.brk : FormExists.Statement .brk := rfl
theorem FormExists.bvc (rel : Byte) : FormExists.Statement (.bvc rel) := decide_eq_true rel.isLt
theorem FormExists.bvs (rel : Byte) : FormExists.Statement (.bvs rel) := decide_eq_true rel.isLt
theorem FormExists.clc : FormExists.Statement .clc := rfl
theorem FormExists.cld : FormExists.Statement .cld := rfl
theorem FormExists.cli : FormExists.Statement .cli := rfl
theorem FormExists.clv : FormExists.Statement .clv := rfl
theorem FormExists.cmpImm (v : Byte) : FormExists.Statement (.cmpImm v) := decide_eq_true v.isLt
theorem FormExists.cmpZp (z : Byte) : FormExists.Statement (.cmpZp z) := decide_eq_true z.isLt
theorem FormExists.cmpZpx (z : Byte) : FormExists.Statement (.cmpZpx z) := decide_eq_true z.isLt
theorem FormExists.cmpAbs (addr : Addr) : FormExists.Statement (.cmpAbs addr) := decide_eq_true addr.isLt
theorem FormExists.cmpAbx (addr : Addr) : FormExists.Statement (.cmpAbx addr) := decide_eq_true addr.isLt
theorem FormExists.cmpAby (addr : Addr) : FormExists.Statement (.cmpAby addr) := decide_eq_true addr.isLt
theorem FormExists.cmpIzx (z : Byte) : FormExists.Statement (.cmpIzx z) := decide_eq_true z.isLt
theorem FormExists.cmpIzy (z : Byte) : FormExists.Statement (.cmpIzy z) := decide_eq_true z.isLt
theorem FormExists.cpxImm (v : Byte) : FormExists.Statement (.cpxImm v) := decide_eq_true v.isLt
theorem FormExists.cpxZp (z : Byte) : FormExists.Statement (.cpxZp z) := decide_eq_true z.isLt
theorem FormExists.cpxAbs (addr : Addr) : FormExists.Statement (.cpxAbs addr) := decide_eq_true addr.isLt
theorem FormExists.cpyImm (v : Byte) : FormExists.Statement (.cpyImm v) := decide_eq_true v.isLt
theorem FormExists.cpyZp (z : Byte) : FormExists.Statement (.cpyZp z) := decide_eq_true z.isLt
theorem FormExists.cpyAbs (addr : Addr) : FormExists.Statement (.cpyAbs addr) := decide_eq_true addr.isLt
theorem FormExists.decZp (z : Byte) : FormExists.Statement (.decZp z) := decide_eq_true z.isLt
theorem FormExists.decZpx (z : Byte) : FormExists.Statement (.decZpx z) := decide_eq_true z.isLt
theorem FormExists.decAbs (addr : Addr) : FormExists.Statement (.decAbs addr) := decide_eq_true addr.isLt
theorem FormExists.decAbx (addr : Addr) : FormExists.Statement (.decAbx addr) := decide_eq_true addr.isLt
theorem FormExists.dex : FormExists.Statement .dex := rfl
theorem FormExists.dey : FormExists.Statement .dey := rfl
theorem FormExists.eorImm (v : Byte) : FormExists.Statement (.eorImm v) := decide_eq_true v.isLt
theorem FormExists.eorZp (z : Byte) : FormExists.Statement (.eorZp z) := decide_eq_true z.isLt
theorem FormExists.eorZpx (z : Byte) : FormExists.Statement (.eorZpx z) := decide_eq_true z.isLt
theorem FormExists.eorAbs (addr : Addr) : FormExists.Statement (.eorAbs addr) := decide_eq_true addr.isLt
theorem FormExists.eorAbx (addr : Addr) : FormExists.Statement (.eorAbx addr) := decide_eq_true addr.isLt
theorem FormExists.eorAby (addr : Addr) : FormExists.Statement (.eorAby addr) := decide_eq_true addr.isLt
theorem FormExists.eorIzx (z : Byte) : FormExists.Statement (.eorIzx z) := decide_eq_true z.isLt
theorem FormExists.eorIzy (z : Byte) : FormExists.Statement (.eorIzy z) := decide_eq_true z.isLt
theorem FormExists.incZp (z : Byte) : FormExists.Statement (.incZp z) := decide_eq_true z.isLt
theorem FormExists.incZpx (z : Byte) : FormExists.Statement (.incZpx z) := decide_eq_true z.isLt
theorem FormExists.incAbs (addr : Addr) : FormExists.Statement (.incAbs addr) := decide_eq_true addr.isLt
theorem FormExists.incAbx (addr : Addr) : FormExists.Statement (.incAbx addr) := decide_eq_true addr.isLt
theorem FormExists.inx : FormExists.Statement .inx := rfl
theorem FormExists.iny : FormExists.Statement .iny := rfl
theorem FormExists.jmpAbs (addr : Addr) : FormExists.Statement (.jmpAbs addr) := decide_eq_true addr.isLt
theorem FormExists.jmpInd (addr : Addr) : FormExists.Statement (.jmpInd addr) := decide_eq_true addr.isLt
theorem FormExists.jsr (addr : Addr) : FormExists.Statement (.jsr addr) := decide_eq_true addr.isLt
theorem FormExists.ldaImm (v : Byte) : FormExists.Statement (.ldaImm v) := decide_eq_true v.isLt
theorem FormExists.ldaZp (z : Byte) : FormExists.Statement (.ldaZp z) := decide_eq_true z.isLt
theorem FormExists.ldaZpx (z : Byte) : FormExists.Statement (.ldaZpx z) := decide_eq_true z.isLt
theorem FormExists.ldaAbs (addr : Addr) : FormExists.Statement (.ldaAbs addr) := decide_eq_true addr.isLt
theorem FormExists.ldaAbx (addr : Addr) : FormExists.Statement (.ldaAbx addr) := decide_eq_true addr.isLt
theorem FormExists.ldaAby (addr : Addr) : FormExists.Statement (.ldaAby addr) := decide_eq_true addr.isLt
theorem FormExists.ldaIzx (z : Byte) : FormExists.Statement (.ldaIzx z) := decide_eq_true z.isLt
theorem FormExists.ldaIzy (z : Byte) : FormExists.Statement (.ldaIzy z) := decide_eq_true z.isLt
theorem FormExists.ldxImm (v : Byte) : FormExists.Statement (.ldxImm v) := decide_eq_true v.isLt
theorem FormExists.ldxZp (z : Byte) : FormExists.Statement (.ldxZp z) := decide_eq_true z.isLt
theorem FormExists.ldxZpy (z : Byte) : FormExists.Statement (.ldxZpy z) := decide_eq_true z.isLt
theorem FormExists.ldxAbs (addr : Addr) : FormExists.Statement (.ldxAbs addr) := decide_eq_true addr.isLt
theorem FormExists.ldxAby (addr : Addr) : FormExists.Statement (.ldxAby addr) := decide_eq_true addr.isLt
theorem FormExists.ldyImm (v : Byte) : FormExists.Statement (.ldyImm v) := decide_eq_true v.isLt
theorem FormExists.ldyZp (z : Byte) : FormExists.Statement (.ldyZp z) := decide_eq_true z.isLt
theorem FormExists.ldyZpx (z : Byte) : FormExists.Statement (.ldyZpx z) := decide_eq_true z.isLt
theorem FormExists.ldyAbs (addr : Addr) : FormExists.Statement (.ldyAbs addr) := decide_eq_true addr.isLt
theorem FormExists.ldyAbx (addr : Addr) : FormExists.Statement (.ldyAbx addr) := decide_eq_true addr.isLt
theorem FormExists.lsrAcc : FormExists.Statement .lsrAcc := rfl
theorem FormExists.lsrZp (z : Byte) : FormExists.Statement (.lsrZp z) := decide_eq_true z.isLt
theorem FormExists.lsrZpx (z : Byte) : FormExists.Statement (.lsrZpx z) := decide_eq_true z.isLt
theorem FormExists.lsrAbs (addr : Addr) : FormExists.Statement (.lsrAbs addr) := decide_eq_true addr.isLt
theorem FormExists.lsrAbx (addr : Addr) : FormExists.Statement (.lsrAbx addr) := decide_eq_true addr.isLt
theorem FormExists.nop : FormExists.Statement .nop := rfl
theorem FormExists.oraImm (v : Byte) : FormExists.Statement (.oraImm v) := decide_eq_true v.isLt
theorem FormExists.oraZp (z : Byte) : FormExists.Statement (.oraZp z) := decide_eq_true z.isLt
theorem FormExists.oraZpx (z : Byte) : FormExists.Statement (.oraZpx z) := decide_eq_true z.isLt
theorem FormExists.oraAbs (addr : Addr) : FormExists.Statement (.oraAbs addr) := decide_eq_true addr.isLt
theorem FormExists.oraAbx (addr : Addr) : FormExists.Statement (.oraAbx addr) := decide_eq_true addr.isLt
theorem FormExists.oraAby (addr : Addr) : FormExists.Statement (.oraAby addr) := decide_eq_true addr.isLt
theorem FormExists.oraIzx (z : Byte) : FormExists.Statement (.oraIzx z) := decide_eq_true z.isLt
theorem FormExists.oraIzy (z : Byte) : FormExists.Statement (.oraIzy z) := decide_eq_true z.isLt
theorem FormExists.pha : FormExists.Statement .pha := rfl
theorem FormExists.php : FormExists.Statement .php := rfl
theorem FormExists.pla : FormExists.Statement .pla := rfl
theorem FormExists.plp : FormExists.Statement .plp := rfl
theorem FormExists.rolAcc : FormExists.Statement .rolAcc := rfl
theorem FormExists.rolZp (z : Byte) : FormExists.Statement (.rolZp z) := decide_eq_true z.isLt
theorem FormExists.rolZpx (z : Byte) : FormExists.Statement (.rolZpx z) := decide_eq_true z.isLt
theorem FormExists.rolAbs (addr : Addr) : FormExists.Statement (.rolAbs addr) := decide_eq_true addr.isLt
theorem FormExists.rolAbx (addr : Addr) : FormExists.Statement (.rolAbx addr) := decide_eq_true addr.isLt
theorem FormExists.rorAcc : FormExists.Statement .rorAcc := rfl
theorem FormExists.rorZp (z : Byte) : FormExists.Statement (.rorZp z) := decide_eq_true z.isLt
theorem FormExists.rorZpx (z : Byte) : FormExists.Statement (.rorZpx z) := decide_eq_true z.isLt
theorem FormExists.rorAbs (addr : Addr) : FormExists.Statement (.rorAbs addr) := decide_eq_true addr.isLt
theorem FormExists.rorAbx (addr : Addr) : FormExists.Statement (.rorAbx addr) := decide_eq_true addr.isLt
theorem FormExists.rti : FormExists.Statement .rti := rfl
theorem FormExists.rts : FormExists.Statement .rts := rfl
theorem FormExists.sbcImm (v : Byte) : FormExists.Statement (.sbcImm v) := decide_eq_true v.isLt
theorem FormExists.sbcZp (z : Byte) : FormExists.Statement (.sbcZp z) := decide_eq_true z.isLt
theorem FormExists.sbcZpx (z : Byte) : FormExists.Statement (.sbcZpx z) := decide_eq_true z.isLt
theorem FormExists.sbcAbs (addr : Addr) : FormExists.Statement (.sbcAbs addr) := decide_eq_true addr.isLt
theorem FormExists.sbcAbx (addr : Addr) : FormExists.Statement (.sbcAbx addr) := decide_eq_true addr.isLt
theorem FormExists.sbcAby (addr : Addr) : FormExists.Statement (.sbcAby addr) := decide_eq_true addr.isLt
theorem FormExists.sbcIzx (z : Byte) : FormExists.Statement (.sbcIzx z) := decide_eq_true z.isLt
theorem FormExists.sbcIzy (z : Byte) : FormExists.Statement (.sbcIzy z) := decide_eq_true z.isLt
theorem FormExists.sec : FormExists.Statement .sec := rfl
theorem FormExists.sed : FormExists.Statement .sed := rfl
theorem FormExists.sei : FormExists.Statement .sei := rfl
theorem FormExists.staZp (z : Byte) : FormExists.Statement (.staZp z) := decide_eq_true z.isLt
theorem FormExists.staZpx (z : Byte) : FormExists.Statement (.staZpx z) := decide_eq_true z.isLt
theorem FormExists.staAbs (addr : Addr) : FormExists.Statement (.staAbs addr) := decide_eq_true addr.isLt
theorem FormExists.staAbx (addr : Addr) : FormExists.Statement (.staAbx addr) := decide_eq_true addr.isLt
theorem FormExists.staAby (addr : Addr) : FormExists.Statement (.staAby addr) := decide_eq_true addr.isLt
theorem FormExists.staIzx (z : Byte) : FormExists.Statement (.staIzx z) := decide_eq_true z.isLt
theorem FormExists.staIzy (z : Byte) : FormExists.Statement (.staIzy z) := decide_eq_true z.isLt
theorem FormExists.stxZp (z : Byte) : FormExists.Statement (.stxZp z) := decide_eq_true z.isLt
theorem FormExists.stxZpy (z : Byte) : FormExists.Statement (.stxZpy z) := decide_eq_true z.isLt
theorem FormExists.stxAbs (addr : Addr) : FormExists.Statement (.stxAbs addr) := decide_eq_true addr.isLt
theorem FormExists.styZp (z : Byte) : FormExists.Statement (.styZp z) := decide_eq_true z.isLt
theorem FormExists.styZpx (z : Byte) : FormExists.Statement (.styZpx z) := decide_eq_true z.isLt
theorem FormExists.styAbs (addr : Addr) : FormExists.Statement (.styAbs addr) := decide_eq_true addr.isLt
theorem FormExists.tax : FormExists.Statement .tax := rfl
theorem FormExists.tay : FormExists.Statement .tay := rfl
theorem FormExists.tya : FormExists.Statement .tya := rfl
theorem FormExists.tsx : FormExists.Statement .tsx := rfl
theorem FormExists.txa : FormExists.Statement .txa := rfl
theorem FormExists.txs : FormExists.Statement .txs := rfl

end Sys2Proof.Laws
end

