-- ==== Sys2Proof/Laws/Results.lean ====
section
/-! SUPPORT. What each result function of the data instructions leaves in each field it is said to keep, and
what ADC and SBC do to the count of draws. -/

namespace Sys2Proof.Machine

/-- The fields a decimal result keeps, in either reading of `DecimalModel` (40_arithmetic.md R126, R127). -/
theorem State.putDecimal_cases (s : State) (m : Byte) (r : AluOut) :
    s.putDecimal m r = s.putAlu r ∨ s.putDecimal m r = s.putAluDrawn (validBcd s.a && validBcd m) r := by
  unfold State.putDecimal
  cases s.platform.decimal <;> simp

/-- ADC writes A and N, V, Z, C, and under the conservative `DecimalModel` draws four values. -/
theorem State.adc_cases (m : Byte) (s : State) :
    (∃ r, State.adc m s = s.putAlu r) ∨ ∃ valid r, State.adc m s = s.putAluDrawn valid r := by
  unfold State.adc
  split
  · exact (s.putDecimal_cases m _).imp (fun h => ⟨_, h⟩) (fun h => ⟨_, _, h⟩)
  · exact .inl ⟨_, rfl⟩

/-- So does SBC. -/
theorem State.sbc_cases (m : Byte) (s : State) :
    (∃ r, State.sbc m s = s.putAlu r) ∨ ∃ valid r, State.sbc m s = s.putAluDrawn valid r := by
  unfold State.sbc
  split
  · exact (s.putDecimal_cases m _).imp (fun h => ⟨_, h⟩) (fun h => ⟨_, _, h⟩)
  · exact .inl ⟨_, rfl⟩

@[simp] theorem State.adc_x (m : Byte) (s : State) : (State.adc m s).x = s.x := by
  obtain ⟨_, h⟩ | ⟨_, _, h⟩ := State.adc_cases m s <;> rw [h] <;> rfl
@[simp] theorem State.adc_y (m : Byte) (s : State) : (State.adc m s).y = s.y := by
  obtain ⟨_, h⟩ | ⟨_, _, h⟩ := State.adc_cases m s <;> rw [h] <;> rfl
@[simp] theorem State.adc_sp (m : Byte) (s : State) : (State.adc m s).sp = s.sp := by
  obtain ⟨_, h⟩ | ⟨_, _, h⟩ := State.adc_cases m s <;> rw [h] <;> rfl
@[simp] theorem State.adc_pc (m : Byte) (s : State) : (State.adc m s).pc = s.pc := by
  obtain ⟨_, h⟩ | ⟨_, _, h⟩ := State.adc_cases m s <;> rw [h] <;> rfl
@[simp] theorem State.adc_d (m : Byte) (s : State) : (State.adc m s).d = s.d := by
  obtain ⟨_, h⟩ | ⟨_, _, h⟩ := State.adc_cases m s <;> rw [h] <;> rfl
@[simp] theorem State.adc_i (m : Byte) (s : State) : (State.adc m s).i = s.i := by
  obtain ⟨_, h⟩ | ⟨_, _, h⟩ := State.adc_cases m s <;> rw [h] <;> rfl
@[simp] theorem State.adc_mem (m : Byte) (s : State) : (State.adc m s).mem = s.mem := by
  obtain ⟨_, h⟩ | ⟨_, _, h⟩ := State.adc_cases m s <;> rw [h] <;> rfl
@[simp] theorem State.adc_nmiPending (m : Byte) (s : State) : (State.adc m s).nmiPending = s.nmiPending := by
  obtain ⟨_, h⟩ | ⟨_, _, h⟩ := State.adc_cases m s <;> rw [h] <;> rfl
@[simp] theorem State.adc_iPrev (m : Byte) (s : State) : (State.adc m s).iPrev = s.iPrev := by
  obtain ⟨_, h⟩ | ⟨_, _, h⟩ := State.adc_cases m s <;> rw [h] <;> rfl
@[simp] theorem State.adc_platform (m : Byte) (s : State) : (State.adc m s).platform = s.platform := by
  obtain ⟨_, h⟩ | ⟨_, _, h⟩ := State.adc_cases m s <;> rw [h] <;> rfl
@[simp] theorem State.adc_inputs (m : Byte) (s : State) : (State.adc m s).inputs = s.inputs := by
  obtain ⟨_, h⟩ | ⟨_, _, h⟩ := State.adc_cases m s <;> rw [h] <;> rfl
@[simp] theorem State.adc_choices (m : Byte) (s : State) : (State.adc m s).choices = s.choices := by
  obtain ⟨_, h⟩ | ⟨_, _, h⟩ := State.adc_cases m s <;> rw [h] <;> rfl

theorem State.adc_draws (m : Byte) (s : State) : s.draws ≤ (State.adc m s).draws := by
  obtain ⟨_, h⟩ | ⟨_, _, h⟩ := State.adc_cases m s <;> rw [h]
  · exact Nat.le_refl _
  · exact Nat.le_add_right _ _

@[simp] theorem State.sbc_x (m : Byte) (s : State) : (State.sbc m s).x = s.x := by
  obtain ⟨_, h⟩ | ⟨_, _, h⟩ := State.sbc_cases m s <;> rw [h] <;> rfl
@[simp] theorem State.sbc_y (m : Byte) (s : State) : (State.sbc m s).y = s.y := by
  obtain ⟨_, h⟩ | ⟨_, _, h⟩ := State.sbc_cases m s <;> rw [h] <;> rfl
@[simp] theorem State.sbc_sp (m : Byte) (s : State) : (State.sbc m s).sp = s.sp := by
  obtain ⟨_, h⟩ | ⟨_, _, h⟩ := State.sbc_cases m s <;> rw [h] <;> rfl
@[simp] theorem State.sbc_pc (m : Byte) (s : State) : (State.sbc m s).pc = s.pc := by
  obtain ⟨_, h⟩ | ⟨_, _, h⟩ := State.sbc_cases m s <;> rw [h] <;> rfl
@[simp] theorem State.sbc_d (m : Byte) (s : State) : (State.sbc m s).d = s.d := by
  obtain ⟨_, h⟩ | ⟨_, _, h⟩ := State.sbc_cases m s <;> rw [h] <;> rfl
@[simp] theorem State.sbc_i (m : Byte) (s : State) : (State.sbc m s).i = s.i := by
  obtain ⟨_, h⟩ | ⟨_, _, h⟩ := State.sbc_cases m s <;> rw [h] <;> rfl
@[simp] theorem State.sbc_mem (m : Byte) (s : State) : (State.sbc m s).mem = s.mem := by
  obtain ⟨_, h⟩ | ⟨_, _, h⟩ := State.sbc_cases m s <;> rw [h] <;> rfl
@[simp] theorem State.sbc_nmiPending (m : Byte) (s : State) : (State.sbc m s).nmiPending = s.nmiPending := by
  obtain ⟨_, h⟩ | ⟨_, _, h⟩ := State.sbc_cases m s <;> rw [h] <;> rfl
@[simp] theorem State.sbc_iPrev (m : Byte) (s : State) : (State.sbc m s).iPrev = s.iPrev := by
  obtain ⟨_, h⟩ | ⟨_, _, h⟩ := State.sbc_cases m s <;> rw [h] <;> rfl
@[simp] theorem State.sbc_platform (m : Byte) (s : State) : (State.sbc m s).platform = s.platform := by
  obtain ⟨_, h⟩ | ⟨_, _, h⟩ := State.sbc_cases m s <;> rw [h] <;> rfl
@[simp] theorem State.sbc_inputs (m : Byte) (s : State) : (State.sbc m s).inputs = s.inputs := by
  obtain ⟨_, h⟩ | ⟨_, _, h⟩ := State.sbc_cases m s <;> rw [h] <;> rfl
@[simp] theorem State.sbc_choices (m : Byte) (s : State) : (State.sbc m s).choices = s.choices := by
  obtain ⟨_, h⟩ | ⟨_, _, h⟩ := State.sbc_cases m s <;> rw [h] <;> rfl

theorem State.sbc_draws (m : Byte) (s : State) : s.draws ≤ (State.sbc m s).draws := by
  obtain ⟨_, h⟩ | ⟨_, _, h⟩ := State.sbc_cases m s <;> rw [h]
  · exact Nat.le_refl _
  · exact Nat.le_add_right _ _

@[simp] theorem State.andA_x (m : Byte) (s : State) : (State.andA m s).x = s.x := rfl
@[simp] theorem State.andA_y (m : Byte) (s : State) : (State.andA m s).y = s.y := rfl
@[simp] theorem State.andA_sp (m : Byte) (s : State) : (State.andA m s).sp = s.sp := rfl
@[simp] theorem State.andA_pc (m : Byte) (s : State) : (State.andA m s).pc = s.pc := rfl
@[simp] theorem State.andA_v (m : Byte) (s : State) : (State.andA m s).v = s.v := rfl
@[simp] theorem State.andA_d (m : Byte) (s : State) : (State.andA m s).d = s.d := rfl
@[simp] theorem State.andA_i (m : Byte) (s : State) : (State.andA m s).i = s.i := rfl
@[simp] theorem State.andA_c (m : Byte) (s : State) : (State.andA m s).c = s.c := rfl
@[simp] theorem State.andA_mem (m : Byte) (s : State) : (State.andA m s).mem = s.mem := rfl
@[simp] theorem State.andA_nmiPending (m : Byte) (s : State) : (State.andA m s).nmiPending = s.nmiPending := rfl
@[simp] theorem State.andA_iPrev (m : Byte) (s : State) : (State.andA m s).iPrev = s.iPrev := rfl
@[simp] theorem State.andA_platform (m : Byte) (s : State) : (State.andA m s).platform = s.platform := rfl
@[simp] theorem State.andA_inputs (m : Byte) (s : State) : (State.andA m s).inputs = s.inputs := rfl
@[simp] theorem State.andA_draws (m : Byte) (s : State) : (State.andA m s).draws = s.draws := rfl
@[simp] theorem State.andA_choices (m : Byte) (s : State) : (State.andA m s).choices = s.choices := rfl

@[simp] theorem State.eorA_x (m : Byte) (s : State) : (State.eorA m s).x = s.x := rfl
@[simp] theorem State.eorA_y (m : Byte) (s : State) : (State.eorA m s).y = s.y := rfl
@[simp] theorem State.eorA_sp (m : Byte) (s : State) : (State.eorA m s).sp = s.sp := rfl
@[simp] theorem State.eorA_pc (m : Byte) (s : State) : (State.eorA m s).pc = s.pc := rfl
@[simp] theorem State.eorA_v (m : Byte) (s : State) : (State.eorA m s).v = s.v := rfl
@[simp] theorem State.eorA_d (m : Byte) (s : State) : (State.eorA m s).d = s.d := rfl
@[simp] theorem State.eorA_i (m : Byte) (s : State) : (State.eorA m s).i = s.i := rfl
@[simp] theorem State.eorA_c (m : Byte) (s : State) : (State.eorA m s).c = s.c := rfl
@[simp] theorem State.eorA_mem (m : Byte) (s : State) : (State.eorA m s).mem = s.mem := rfl
@[simp] theorem State.eorA_nmiPending (m : Byte) (s : State) : (State.eorA m s).nmiPending = s.nmiPending := rfl
@[simp] theorem State.eorA_iPrev (m : Byte) (s : State) : (State.eorA m s).iPrev = s.iPrev := rfl
@[simp] theorem State.eorA_platform (m : Byte) (s : State) : (State.eorA m s).platform = s.platform := rfl
@[simp] theorem State.eorA_inputs (m : Byte) (s : State) : (State.eorA m s).inputs = s.inputs := rfl
@[simp] theorem State.eorA_draws (m : Byte) (s : State) : (State.eorA m s).draws = s.draws := rfl
@[simp] theorem State.eorA_choices (m : Byte) (s : State) : (State.eorA m s).choices = s.choices := rfl

@[simp] theorem State.oraA_x (m : Byte) (s : State) : (State.oraA m s).x = s.x := rfl
@[simp] theorem State.oraA_y (m : Byte) (s : State) : (State.oraA m s).y = s.y := rfl
@[simp] theorem State.oraA_sp (m : Byte) (s : State) : (State.oraA m s).sp = s.sp := rfl
@[simp] theorem State.oraA_pc (m : Byte) (s : State) : (State.oraA m s).pc = s.pc := rfl
@[simp] theorem State.oraA_v (m : Byte) (s : State) : (State.oraA m s).v = s.v := rfl
@[simp] theorem State.oraA_d (m : Byte) (s : State) : (State.oraA m s).d = s.d := rfl
@[simp] theorem State.oraA_i (m : Byte) (s : State) : (State.oraA m s).i = s.i := rfl
@[simp] theorem State.oraA_c (m : Byte) (s : State) : (State.oraA m s).c = s.c := rfl
@[simp] theorem State.oraA_mem (m : Byte) (s : State) : (State.oraA m s).mem = s.mem := rfl
@[simp] theorem State.oraA_nmiPending (m : Byte) (s : State) : (State.oraA m s).nmiPending = s.nmiPending := rfl
@[simp] theorem State.oraA_iPrev (m : Byte) (s : State) : (State.oraA m s).iPrev = s.iPrev := rfl
@[simp] theorem State.oraA_platform (m : Byte) (s : State) : (State.oraA m s).platform = s.platform := rfl
@[simp] theorem State.oraA_inputs (m : Byte) (s : State) : (State.oraA m s).inputs = s.inputs := rfl
@[simp] theorem State.oraA_draws (m : Byte) (s : State) : (State.oraA m s).draws = s.draws := rfl
@[simp] theorem State.oraA_choices (m : Byte) (s : State) : (State.oraA m s).choices = s.choices := rfl

@[simp] theorem State.lda_x (m : Byte) (s : State) : (State.lda m s).x = s.x := rfl
@[simp] theorem State.lda_y (m : Byte) (s : State) : (State.lda m s).y = s.y := rfl
@[simp] theorem State.lda_sp (m : Byte) (s : State) : (State.lda m s).sp = s.sp := rfl
@[simp] theorem State.lda_pc (m : Byte) (s : State) : (State.lda m s).pc = s.pc := rfl
@[simp] theorem State.lda_v (m : Byte) (s : State) : (State.lda m s).v = s.v := rfl
@[simp] theorem State.lda_d (m : Byte) (s : State) : (State.lda m s).d = s.d := rfl
@[simp] theorem State.lda_i (m : Byte) (s : State) : (State.lda m s).i = s.i := rfl
@[simp] theorem State.lda_c (m : Byte) (s : State) : (State.lda m s).c = s.c := rfl
@[simp] theorem State.lda_mem (m : Byte) (s : State) : (State.lda m s).mem = s.mem := rfl
@[simp] theorem State.lda_nmiPending (m : Byte) (s : State) : (State.lda m s).nmiPending = s.nmiPending := rfl
@[simp] theorem State.lda_iPrev (m : Byte) (s : State) : (State.lda m s).iPrev = s.iPrev := rfl
@[simp] theorem State.lda_platform (m : Byte) (s : State) : (State.lda m s).platform = s.platform := rfl
@[simp] theorem State.lda_inputs (m : Byte) (s : State) : (State.lda m s).inputs = s.inputs := rfl
@[simp] theorem State.lda_draws (m : Byte) (s : State) : (State.lda m s).draws = s.draws := rfl
@[simp] theorem State.lda_choices (m : Byte) (s : State) : (State.lda m s).choices = s.choices := rfl

@[simp] theorem State.ldx_a (m : Byte) (s : State) : (State.ldx m s).a = s.a := rfl
@[simp] theorem State.ldx_y (m : Byte) (s : State) : (State.ldx m s).y = s.y := rfl
@[simp] theorem State.ldx_sp (m : Byte) (s : State) : (State.ldx m s).sp = s.sp := rfl
@[simp] theorem State.ldx_pc (m : Byte) (s : State) : (State.ldx m s).pc = s.pc := rfl
@[simp] theorem State.ldx_v (m : Byte) (s : State) : (State.ldx m s).v = s.v := rfl
@[simp] theorem State.ldx_d (m : Byte) (s : State) : (State.ldx m s).d = s.d := rfl
@[simp] theorem State.ldx_i (m : Byte) (s : State) : (State.ldx m s).i = s.i := rfl
@[simp] theorem State.ldx_c (m : Byte) (s : State) : (State.ldx m s).c = s.c := rfl
@[simp] theorem State.ldx_mem (m : Byte) (s : State) : (State.ldx m s).mem = s.mem := rfl
@[simp] theorem State.ldx_nmiPending (m : Byte) (s : State) : (State.ldx m s).nmiPending = s.nmiPending := rfl
@[simp] theorem State.ldx_iPrev (m : Byte) (s : State) : (State.ldx m s).iPrev = s.iPrev := rfl
@[simp] theorem State.ldx_platform (m : Byte) (s : State) : (State.ldx m s).platform = s.platform := rfl
@[simp] theorem State.ldx_inputs (m : Byte) (s : State) : (State.ldx m s).inputs = s.inputs := rfl
@[simp] theorem State.ldx_draws (m : Byte) (s : State) : (State.ldx m s).draws = s.draws := rfl
@[simp] theorem State.ldx_choices (m : Byte) (s : State) : (State.ldx m s).choices = s.choices := rfl

@[simp] theorem State.ldy_a (m : Byte) (s : State) : (State.ldy m s).a = s.a := rfl
@[simp] theorem State.ldy_x (m : Byte) (s : State) : (State.ldy m s).x = s.x := rfl
@[simp] theorem State.ldy_sp (m : Byte) (s : State) : (State.ldy m s).sp = s.sp := rfl
@[simp] theorem State.ldy_pc (m : Byte) (s : State) : (State.ldy m s).pc = s.pc := rfl
@[simp] theorem State.ldy_v (m : Byte) (s : State) : (State.ldy m s).v = s.v := rfl
@[simp] theorem State.ldy_d (m : Byte) (s : State) : (State.ldy m s).d = s.d := rfl
@[simp] theorem State.ldy_i (m : Byte) (s : State) : (State.ldy m s).i = s.i := rfl
@[simp] theorem State.ldy_c (m : Byte) (s : State) : (State.ldy m s).c = s.c := rfl
@[simp] theorem State.ldy_mem (m : Byte) (s : State) : (State.ldy m s).mem = s.mem := rfl
@[simp] theorem State.ldy_nmiPending (m : Byte) (s : State) : (State.ldy m s).nmiPending = s.nmiPending := rfl
@[simp] theorem State.ldy_iPrev (m : Byte) (s : State) : (State.ldy m s).iPrev = s.iPrev := rfl
@[simp] theorem State.ldy_platform (m : Byte) (s : State) : (State.ldy m s).platform = s.platform := rfl
@[simp] theorem State.ldy_inputs (m : Byte) (s : State) : (State.ldy m s).inputs = s.inputs := rfl
@[simp] theorem State.ldy_draws (m : Byte) (s : State) : (State.ldy m s).draws = s.draws := rfl
@[simp] theorem State.ldy_choices (m : Byte) (s : State) : (State.ldy m s).choices = s.choices := rfl

@[simp] theorem State.shiftA_x (f : Byte → Bool → ShiftOut) (s : State) : (State.shiftA f s).x = s.x := rfl
@[simp] theorem State.shiftA_y (f : Byte → Bool → ShiftOut) (s : State) : (State.shiftA f s).y = s.y := rfl
@[simp] theorem State.shiftA_sp (f : Byte → Bool → ShiftOut) (s : State) : (State.shiftA f s).sp = s.sp := rfl
@[simp] theorem State.shiftA_pc (f : Byte → Bool → ShiftOut) (s : State) : (State.shiftA f s).pc = s.pc := rfl
@[simp] theorem State.shiftA_v (f : Byte → Bool → ShiftOut) (s : State) : (State.shiftA f s).v = s.v := rfl
@[simp] theorem State.shiftA_d (f : Byte → Bool → ShiftOut) (s : State) : (State.shiftA f s).d = s.d := rfl
@[simp] theorem State.shiftA_i (f : Byte → Bool → ShiftOut) (s : State) : (State.shiftA f s).i = s.i := rfl
@[simp] theorem State.shiftA_mem (f : Byte → Bool → ShiftOut) (s : State) : (State.shiftA f s).mem = s.mem := rfl
@[simp] theorem State.shiftA_nmiPending (f : Byte → Bool → ShiftOut) (s : State) : (State.shiftA f s).nmiPending = s.nmiPending := rfl
@[simp] theorem State.shiftA_iPrev (f : Byte → Bool → ShiftOut) (s : State) : (State.shiftA f s).iPrev = s.iPrev := rfl
@[simp] theorem State.shiftA_platform (f : Byte → Bool → ShiftOut) (s : State) : (State.shiftA f s).platform = s.platform := rfl
@[simp] theorem State.shiftA_inputs (f : Byte → Bool → ShiftOut) (s : State) : (State.shiftA f s).inputs = s.inputs := rfl
@[simp] theorem State.shiftA_draws (f : Byte → Bool → ShiftOut) (s : State) : (State.shiftA f s).draws = s.draws := rfl
@[simp] theorem State.shiftA_choices (f : Byte → Bool → ShiftOut) (s : State) : (State.shiftA f s).choices = s.choices := rfl

@[simp] theorem State.cmp_eq (m : Byte) (s : State) : State.cmp m s = s.compare s.a m := rfl
@[simp] theorem State.cpx_eq (m : Byte) (s : State) : State.cpx m s = s.compare s.x m := rfl
@[simp] theorem State.cpy_eq (m : Byte) (s : State) : State.cpy m s = s.compare s.y m := rfl
@[simp] theorem State.bit_eq (m : Byte) (s : State) : State.bit m s = s.bitTest m := rfl

end Sys2Proof.Machine
end

