-- ==== Sys2Proof/Laws/Step.lean ====
section
/-! SUPPORT. What a boundary and a step can do, said once. -/

namespace Sys2Proof.Machine

/-- A step is an event taken, or the instruction fetched and executed. -/
theorem step_next {s t : State} :
    step s = .next t ↔
      boundary s = .taken (.next t) ∨
        ∃ s1 i s2, boundary s = .execute s1 ∧ fetch s1 = .next (i, s2) ∧ exec i s2 = .next t := by
  unfold step
  cases hb : boundary s with
  | taken r => simp
  | execute s1 =>
    simp only [reduceCtorEq, Boundary.execute.injEq, false_or]
    constructor
    · cases hf : fetch s1 with
      | next p => exact fun h => ⟨s1, p.1, p.2, rfl, hf, h⟩
      | fault f => exact fun h => nomatch h
      | refused r => exact fun h => nomatch h
    · rintro ⟨_, i, s2, rfl, hf, h⟩
      simp [hf, h]

/-- The states a boundary can leave for the instruction: the sample read, at most one choice made, and the
NMI pending only by outcome (b) of 60_exceptions.md R306. -/
theorem boundary_execute {s s1 : State} (h : boundary s = .execute s1) :
    s1 = s.sampled ∨ s1 = { s.sampled with choices := s.choices + 1 } ∨
      s1 = { s.sampled with choices := s.choices + 1, nmiPending := true } := by
  unfold boundary nmiEdge irqRequest at h
  simp only at h
  repeat' split at h
  all_goals cases h
  all_goals simp

/-- The events a boundary can take. -/
theorem boundary_taken {s : State} {r : Result} (h : boundary s = .taken r) :
    ∃ k n, r = resetSequence s.sampled ∨
      r = takeNmi { s.sampled with choices := k, nmiPending := n } ∨
      r = takeIrq { s.sampled with choices := k } ∨
      r = captureBrk { s.sampled with choices := k } := by
  unfold boundary nmiEdge irqRequest at h
  simp only at h
  repeat' split at h
  all_goals cases h
  · exact ⟨0, false, .inl rfl⟩
  · exact ⟨s.choices, s.nmiPending, .inr (.inl rfl)⟩
  · exact ⟨s.choices + 1, s.nmiPending, .inr (.inl rfl)⟩
  · exact ⟨s.choices + 1, false, .inr (.inr (.inr rfl))⟩
  · exact ⟨s.choices, s.nmiPending, .inr (.inl rfl)⟩
  · exact ⟨s.choices + 1, false, .inr (.inr (.inl rfl))⟩

/-- A fetch that gives an instruction has decoded the bytes at PC, none of them a device's, and has read
them. -/
theorem fetch_next {s s' : State} {i : Instr} (h : fetch s = .next (i, s')) :
    ∃ as, s.clear (s.pc :: as) ∧ s' = s.afterReads (s.pc :: as) ∧
      (decode (s.peeks (s.pc :: as))).toOption.map (·.1) = some i := by
  unfold fetch at h
  split at h
  · exact nomatch h
  · rename_i hb
    simp only at h
    split at h
    · exact nomatch h
    · rename_i len _
      split at h
      · exact nomatch h
      · rename_i hr
        split at h
        · rename_i j rest hd
          simp only [Host.Outcome.next.injEq, Prod.mk.injEq] at h
          have hpc := (s.blocked_eq_none _).mp hb
          have hops := ((s.afterRead s.pc).blocked_eq_none _).mp hr
          refine ⟨operandAddrs s.pc len, ?_, h.2.symm, ?_⟩
          · simp only [State.clear_cons] at hpc ⊢
            exact ⟨hpc.1, hops⟩
          · simp [State.peeks, hd, Except.toOption, h.1]
        · exact nomatch h

end Sys2Proof.Machine
end

