-- ==== Sys2Proof/Tests/Slice0.lean ====
section
/-! SUPPORT. The model's own tests. Words are written out from 30_encoding.md R97; the expected results of the
instruction tests are those of 95_test_vectors.md; the other expected results are worked out by hand from the
rule each test names. The witnesses show, for each statement that has hypotheses, that they can be met. -/

namespace Sys2Proof.Tests

open Sys2Proof.Machine Sys2Proof.Spec

/-! ## Written instructions that do not exist (R105, R106) -/

/-- STA has no Immediate form (R86). -/
theorem test_form_sta_immediate :
    Written.formExists { mnemonic := .STA, mode := .IMM, value := 5 } = false := by decide

/-- LDX is indexed by Y, not by X (R88, R89). -/
theorem test_form_ldx_zpx : Written.wellFormed { mnemonic := .LDX, mode := .ZPX, value := 5 } = false := by decide

/-- BIT has no indexed form (R87, R90). -/
theorem test_form_bit_abx : Written.wellFormed { mnemonic := .BIT, mode := .ABX, value := 5 } = false := by decide

/-- An immediate operand is one byte: 256 does not fit, 255 does (R83, R86). -/
theorem test_operand_immediate_256 :
    Written.operandFits { mnemonic := .LDA, mode := .IMM, value := 256 } = false ∧
    Written.wellFormed { mnemonic := .LDA, mode := .IMM, value := 256 } = false ∧
    Written.wellFormed { mnemonic := .LDA, mode := .IMM, value := 255 } = true := by decide

/-- An address is two bytes: 65,536 does not fit (R83, R90). -/
theorem test_operand_address_65536 :
    Written.wellFormed { mnemonic := .JMP, mode := .ABS, value := 65536 } = false := by decide

/-! ## Decoding: every row of R97, its bytes written out -/

/-- Every row's bytes decode to its instruction, with nothing left over. -/
def decodesTo (table : List (List Byte × Instr)) : Bool :=
  table.all fun row => match decode row.1 with
    | .ok (i, []) => i == row.2
    | _ => false

theorem test_decode_arithmetic : decodesTo [
    ([0x69#8, 0x12#8], .adcImm 0x12#8), ([0x65#8, 0x12#8], .adcZp 0x12#8),
    ([0x75#8, 0x12#8], .adcZpx 0x12#8), ([0x6D#8, 0x34#8, 0x12#8], .adcAbs 0x1234#16),
    ([0x7D#8, 0x34#8, 0x12#8], .adcAbx 0x1234#16), ([0x79#8, 0x34#8, 0x12#8], .adcAby 0x1234#16),
    ([0x61#8, 0x12#8], .adcIzx 0x12#8), ([0x71#8, 0x12#8], .adcIzy 0x12#8),
    ([0xC9#8, 0x12#8], .cmpImm 0x12#8), ([0xC5#8, 0x12#8], .cmpZp 0x12#8),
    ([0xD5#8, 0x12#8], .cmpZpx 0x12#8), ([0xCD#8, 0x34#8, 0x12#8], .cmpAbs 0x1234#16),
    ([0xDD#8, 0x34#8, 0x12#8], .cmpAbx 0x1234#16), ([0xD9#8, 0x34#8, 0x12#8], .cmpAby 0x1234#16),
    ([0xC1#8, 0x12#8], .cmpIzx 0x12#8), ([0xD1#8, 0x12#8], .cmpIzy 0x12#8),
    ([0xE0#8, 0x12#8], .cpxImm 0x12#8), ([0xE4#8, 0x12#8], .cpxZp 0x12#8),
    ([0xEC#8, 0x34#8, 0x12#8], .cpxAbs 0x1234#16), ([0xC0#8, 0x12#8], .cpyImm 0x12#8),
    ([0xC4#8, 0x12#8], .cpyZp 0x12#8), ([0xCC#8, 0x34#8, 0x12#8], .cpyAbs 0x1234#16),
    ([0xE9#8, 0x12#8], .sbcImm 0x12#8), ([0xE5#8, 0x12#8], .sbcZp 0x12#8),
    ([0xF5#8, 0x12#8], .sbcZpx 0x12#8), ([0xED#8, 0x34#8, 0x12#8], .sbcAbs 0x1234#16),
    ([0xFD#8, 0x34#8, 0x12#8], .sbcAbx 0x1234#16), ([0xF9#8, 0x34#8, 0x12#8], .sbcAby 0x1234#16),
    ([0xE1#8, 0x12#8], .sbcIzx 0x12#8), ([0xF1#8, 0x12#8], .sbcIzy 0x12#8)] = true := by decide

theorem test_decode_logical : decodesTo [
    ([0x29#8, 0x12#8], .andImm 0x12#8), ([0x25#8, 0x12#8], .andZp 0x12#8),
    ([0x35#8, 0x12#8], .andZpx 0x12#8), ([0x2D#8, 0x34#8, 0x12#8], .andAbs 0x1234#16),
    ([0x3D#8, 0x34#8, 0x12#8], .andAbx 0x1234#16), ([0x39#8, 0x34#8, 0x12#8], .andAby 0x1234#16),
    ([0x21#8, 0x12#8], .andIzx 0x12#8), ([0x31#8, 0x12#8], .andIzy 0x12#8),
    ([0x24#8, 0x12#8], .bitZp 0x12#8), ([0x2C#8, 0x34#8, 0x12#8], .bitAbs 0x1234#16),
    ([0x49#8, 0x12#8], .eorImm 0x12#8), ([0x45#8, 0x12#8], .eorZp 0x12#8),
    ([0x55#8, 0x12#8], .eorZpx 0x12#8), ([0x4D#8, 0x34#8, 0x12#8], .eorAbs 0x1234#16),
    ([0x5D#8, 0x34#8, 0x12#8], .eorAbx 0x1234#16), ([0x59#8, 0x34#8, 0x12#8], .eorAby 0x1234#16),
    ([0x41#8, 0x12#8], .eorIzx 0x12#8), ([0x51#8, 0x12#8], .eorIzy 0x12#8),
    ([0x09#8, 0x12#8], .oraImm 0x12#8), ([0x05#8, 0x12#8], .oraZp 0x12#8),
    ([0x15#8, 0x12#8], .oraZpx 0x12#8), ([0x0D#8, 0x34#8, 0x12#8], .oraAbs 0x1234#16),
    ([0x1D#8, 0x34#8, 0x12#8], .oraAbx 0x1234#16), ([0x19#8, 0x34#8, 0x12#8], .oraAby 0x1234#16),
    ([0x01#8, 0x12#8], .oraIzx 0x12#8), ([0x11#8, 0x12#8], .oraIzy 0x12#8)] = true := by decide

theorem test_decode_shift : decodesTo [
    ([0x0A#8], .aslAcc), ([0x06#8, 0x12#8], .aslZp 0x12#8), ([0x16#8, 0x12#8], .aslZpx 0x12#8),
    ([0x0E#8, 0x34#8, 0x12#8], .aslAbs 0x1234#16), ([0x1E#8, 0x34#8, 0x12#8], .aslAbx 0x1234#16),
    ([0x4A#8], .lsrAcc), ([0x46#8, 0x12#8], .lsrZp 0x12#8), ([0x56#8, 0x12#8], .lsrZpx 0x12#8),
    ([0x4E#8, 0x34#8, 0x12#8], .lsrAbs 0x1234#16), ([0x5E#8, 0x34#8, 0x12#8], .lsrAbx 0x1234#16),
    ([0x2A#8], .rolAcc), ([0x26#8, 0x12#8], .rolZp 0x12#8), ([0x36#8, 0x12#8], .rolZpx 0x12#8),
    ([0x2E#8, 0x34#8, 0x12#8], .rolAbs 0x1234#16), ([0x3E#8, 0x34#8, 0x12#8], .rolAbx 0x1234#16),
    ([0x6A#8], .rorAcc), ([0x66#8, 0x12#8], .rorZp 0x12#8), ([0x76#8, 0x12#8], .rorZpx 0x12#8),
    ([0x6E#8, 0x34#8, 0x12#8], .rorAbs 0x1234#16), ([0x7E#8, 0x34#8, 0x12#8], .rorAbx 0x1234#16)] = true := by decide

theorem test_decode_branch : decodesTo [
    ([0x90#8, 0x12#8], .bcc 0x12#8), ([0xB0#8, 0x12#8], .bcs 0x12#8), ([0xF0#8, 0x12#8], .beq 0x12#8),
    ([0x30#8, 0x12#8], .bmi 0x12#8), ([0xD0#8, 0x12#8], .bne 0x12#8), ([0x10#8, 0x12#8], .bpl 0x12#8),
    ([0x50#8, 0x12#8], .bvc 0x12#8), ([0x70#8, 0x12#8], .bvs 0x12#8)] = true := by decide

theorem test_decode_system : decodesTo [
    ([0x00#8], .brk), ([0xEA#8], .nop), ([0x40#8], .rti)] = true := by decide

theorem test_decode_flag : decodesTo [
    ([0x18#8], .clc), ([0xD8#8], .cld), ([0x58#8], .cli), ([0xB8#8], .clv), ([0x38#8], .sec),
    ([0xF8#8], .sed), ([0x78#8], .sei)] = true := by decide

theorem test_decode_incdec : decodesTo [
    ([0xC6#8, 0x12#8], .decZp 0x12#8), ([0xD6#8, 0x12#8], .decZpx 0x12#8),
    ([0xCE#8, 0x34#8, 0x12#8], .decAbs 0x1234#16), ([0xDE#8, 0x34#8, 0x12#8], .decAbx 0x1234#16),
    ([0xCA#8], .dex), ([0x88#8], .dey), ([0xE6#8, 0x12#8], .incZp 0x12#8),
    ([0xF6#8, 0x12#8], .incZpx 0x12#8), ([0xEE#8, 0x34#8, 0x12#8], .incAbs 0x1234#16),
    ([0xFE#8, 0x34#8, 0x12#8], .incAbx 0x1234#16), ([0xE8#8], .inx), ([0xC8#8], .iny)] = true := by decide

theorem test_decode_jump : decodesTo [
    ([0x4C#8, 0x34#8, 0x12#8], .jmpAbs 0x1234#16), ([0x6C#8, 0x34#8, 0x12#8], .jmpInd 0x1234#16),
    ([0x20#8, 0x34#8, 0x12#8], .jsr 0x1234#16), ([0x60#8], .rts)] = true := by decide

theorem test_decode_load_store : decodesTo [
    ([0xA9#8, 0x12#8], .ldaImm 0x12#8), ([0xA5#8, 0x12#8], .ldaZp 0x12#8),
    ([0xB5#8, 0x12#8], .ldaZpx 0x12#8), ([0xAD#8, 0x34#8, 0x12#8], .ldaAbs 0x1234#16),
    ([0xBD#8, 0x34#8, 0x12#8], .ldaAbx 0x1234#16), ([0xB9#8, 0x34#8, 0x12#8], .ldaAby 0x1234#16),
    ([0xA1#8, 0x12#8], .ldaIzx 0x12#8), ([0xB1#8, 0x12#8], .ldaIzy 0x12#8),
    ([0xA2#8, 0x12#8], .ldxImm 0x12#8), ([0xA6#8, 0x12#8], .ldxZp 0x12#8),
    ([0xB6#8, 0x12#8], .ldxZpy 0x12#8), ([0xAE#8, 0x34#8, 0x12#8], .ldxAbs 0x1234#16),
    ([0xBE#8, 0x34#8, 0x12#8], .ldxAby 0x1234#16), ([0xA0#8, 0x12#8], .ldyImm 0x12#8),
    ([0xA4#8, 0x12#8], .ldyZp 0x12#8), ([0xB4#8, 0x12#8], .ldyZpx 0x12#8),
    ([0xAC#8, 0x34#8, 0x12#8], .ldyAbs 0x1234#16), ([0xBC#8, 0x34#8, 0x12#8], .ldyAbx 0x1234#16),
    ([0x85#8, 0x12#8], .staZp 0x12#8), ([0x95#8, 0x12#8], .staZpx 0x12#8),
    ([0x8D#8, 0x34#8, 0x12#8], .staAbs 0x1234#16), ([0x9D#8, 0x34#8, 0x12#8], .staAbx 0x1234#16),
    ([0x99#8, 0x34#8, 0x12#8], .staAby 0x1234#16), ([0x81#8, 0x12#8], .staIzx 0x12#8),
    ([0x91#8, 0x12#8], .staIzy 0x12#8), ([0x86#8, 0x12#8], .stxZp 0x12#8),
    ([0x96#8, 0x12#8], .stxZpy 0x12#8), ([0x8E#8, 0x34#8, 0x12#8], .stxAbs 0x1234#16),
    ([0x84#8, 0x12#8], .styZp 0x12#8), ([0x94#8, 0x12#8], .styZpx 0x12#8),
    ([0x8C#8, 0x34#8, 0x12#8], .styAbs 0x1234#16)] = true := by decide

theorem test_decode_stack_transfer : decodesTo [
    ([0x48#8], .pha), ([0x08#8], .php), ([0x68#8], .pla), ([0x28#8], .plp), ([0xAA#8], .tax),
    ([0xA8#8], .tay), ([0x98#8], .tya), ([0xBA#8], .tsx), ([0x8A#8], .txa), ([0x9A#8], .txs)] = true := by decide

/-- An op-code byte that R97 does not list decodes to nothing, and names itself (R100). -/
theorem test_decode_unlisted : decode [0x02#8, 0x00#8] = .error (.unlistedOpcode 0x02#8) := by decide

/-- Bytes that end too soon decode to nothing. -/
theorem test_decode_truncated : decode [0x6D#8, 0x00#8] = .error .truncated := by decide

/-- The table's numbering: the first byte is bits 7..0 (opcode_table.json). -/
theorem test_table_word : decodeTableWord 24 0x1234AD = some (.ldaAbs 0x1234#16) := by decide

/-! ## One step of each instruction (95_test_vectors.md, section 2) -/

/-- The start of those tests: PC = &0200, SP = &FF, everything else zero. The flags
are looked at as the status byte N V 1 1 D I Z C (R32). -/
def start : State := { State.reset with pc := 0x0200#16, sp := 0xFF#8, i := false }

/-- `s` with these bytes in memory. -/
def load (s : State) (cells : List (Nat × Byte)) : State :=
  { s with mem := cells.foldl (fun m c => Memory.write m c.1 c.2) s.mem }

/-- What one step of `s` leaves, looked at through `look`; `none` when it stops. -/
def after {α : Type} (s : State) (look : State → α) : Option α :=
  match step s with
  | .next t => some (look t)
  | _ => none

/-- ADC #&01 -/
theorem test_adc_overflow :
    after (load { start with a := 0x7F#8, c := false } [(0x0200, 0x69#8), (0x0201, 0x01#8)])
      (fun t => (t.a, t.pc, t.pByte true)) =
    some (0x80#8, 0x0202#16, 0xF0#8) := by decide

/-- SBC #&FF -/
theorem test_sbc_overflow :
    after (load { start with a := 0x7F#8, c := true } [(0x0200, 0xE9#8), (0x0201, 0xFF#8)])
      (fun t => (t.a, t.pc, t.pByte true)) =
    some (0x80#8, 0x0202#16, 0xF0#8) := by decide

/-- CMP #&41 -/
theorem test_cmp_borrow :
    after (load { start with a := 0x40#8, c := true, v := true } [(0x0200, 0xC9#8), (0x0201, 0x41#8)])
      (fun t => (t.pc, t.pByte true)) =
    some (0x0202#16, 0xF0#8) := by decide

/-- CPX &80 -/
theorem test_cpx_no_borrow :
    after (load { start with x := 0xF0#8 } [(0x0200, 0xE4#8), (0x0201, 0x80#8), (0x0080, 0x10#8)])
      (fun t => (t.pc, t.pByte true)) =
    some (0x0202#16, 0xB1#8) := by decide

/-- CPY &80 -/
theorem test_cpy_no_borrow :
    after (load { start with y := 0x90#8 } [(0x0200, 0xC4#8), (0x0201, 0x80#8), (0x0080, 0x10#8)])
      (fun t => (t.pc, t.pByte true)) =
    some (0x0202#16, 0xB1#8) := by decide

/-- ADC #&46 -/
theorem test_adc_decimal :
    after (load { start with a := 0x58#8, c := true, d := true } [(0x0200, 0x69#8), (0x0201, 0x46#8)])
      (fun t => (t.a, t.pc, t.pByte true)) =
    some (0x05#8, 0x0202#16, 0xF9#8) := by decide

/-- SBC #&21 -/
theorem test_sbc_decimal :
    after (load { start with a := 0x12#8, c := true, d := true } [(0x0200, 0xE9#8), (0x0201, 0x21#8)])
      (fun t => (t.a, t.pc, t.pByte true)) =
    some (0x91#8, 0x0202#16, 0xB8#8) := by decide

/-- AND &F0,X -/
theorem test_and_page_zero_wraps :
    after (load { start with a := 0x3C#8, x := 0x20#8 }
      [(0x0200, 0x35#8), (0x0201, 0xF0#8), (0x0010, 0x0F#8)])
      (fun t => (t.a, t.pc, t.pByte true)) =
    some (0x0C#8, 0x0202#16, 0x30#8) := by decide

/-- EOR &4000,X -/
theorem test_eor_keeps_c :
    after (load { start with a := 0xFF#8, x := 0xFF#8 }
      [(0x0200, 0x5D#8), (0x0201, 0x00#8), (0x0202, 0x40#8), (0x40FF, 0xFF#8)])
      (fun t => (t.a, t.pc, t.pByte true)) =
    some (0x00#8, 0x0203#16, 0x32#8) := by decide

/-- ORA (&40),Y -/
theorem test_ora_crosses_page :
    after (load { start with a := 0x01#8, y := 0x10#8 }
      [(0x0200, 0x11#8), (0x0201, 0x40#8), (0x0040, 0xF8#8), (0x0041, 0x20#8), (0x2108, 0x80#8)])
      (fun t => (t.a, t.pc, t.pByte true)) =
    some (0x81#8, 0x0202#16, 0xB0#8) := by decide

/-- BIT &80 -/
theorem test_bit_flags_of_memory :
    after (load { start with a := 0x01#8, c := true }
      [(0x0200, 0x24#8), (0x0201, 0x80#8), (0x0080, 0xC0#8)])
      (fun t => (t.a, t.pc, t.pByte true)) =
    some (0x01#8, 0x0202#16, 0xF3#8) := by decide

/-- ROL A -/
theorem test_rol_takes_c :
    after (load { start with a := 0x80#8, c := true, v := true } [(0x0200, 0x2A#8)])
      (fun t => (t.a, t.pc, t.pByte true)) =
    some (0x01#8, 0x0201#16, 0x71#8) := by decide

/-- ROR A -/
theorem test_ror_takes_c :
    after (load { start with a := 0x80#8, c := true, v := true } [(0x0200, 0x6A#8)])
      (fun t => (t.a, t.pc, t.pByte true)) =
    some (0xC0#8, 0x0201#16, 0xF0#8) := by decide

/-- ASL &30FF,X -/
theorem test_asl_ignores_c :
    after (load { start with x := 0x01#8, c := true }
      [(0x0200, 0x1E#8), (0x0201, 0xFF#8), (0x0202, 0x30#8), (0x3100, 0x01#8)])
      (fun t => (t.pc, t.pByte true, Memory.read t.mem 0x3100)) =
    some (0x0203#16, 0x30#8, 0x02#8) := by decide

/-- LSR &80 -/
theorem test_lsr_clears_n :
    after (load { start with n := true } [(0x0200, 0x46#8), (0x0201, 0x80#8), (0x0080, 0x01#8)])
      (fun t => (t.pc, t.pByte true, Memory.read t.mem 0x0080)) =
    some (0x0202#16, 0x33#8, 0x00#8) := by decide

/-- BCC &0212 -/
theorem test_bcc_taken :
    after (load { start with c := false } [(0x0200, 0x90#8), (0x0201, 0x10#8)])
      (fun t => (t.pc, t.pByte true)) =
    some (0x0212#16, 0x30#8) := by decide

/-- BCS &0212 -/
theorem test_bcs_taken :
    after (load { start with c := true } [(0x0200, 0xB0#8), (0x0201, 0x10#8)])
      (fun t => (t.pc, t.pByte true)) =
    some (0x0212#16, 0x31#8) := by decide

/-- BEQ &0212 -/
theorem test_beq_taken :
    after (load { start with z := true } [(0x0200, 0xF0#8), (0x0201, 0x10#8)])
      (fun t => (t.pc, t.pByte true)) =
    some (0x0212#16, 0x32#8) := by decide

/-- BMI &0212 -/
theorem test_bmi_taken :
    after (load { start with n := true } [(0x0200, 0x30#8), (0x0201, 0x10#8)])
      (fun t => (t.pc, t.pByte true)) =
    some (0x0212#16, 0xB0#8) := by decide

/-- BNE &0212 -/
theorem test_bne_not_taken :
    after (load { start with z := true } [(0x0200, 0xD0#8), (0x0201, 0x10#8)])
      (fun t => (t.pc, t.pByte true)) =
    some (0x0202#16, 0x32#8) := by decide

/-- BPL &0212 -/
theorem test_bpl_taken :
    after (load { start with n := false } [(0x0200, 0x10#8), (0x0201, 0x10#8)])
      (fun t => (t.pc, t.pByte true)) =
    some (0x0212#16, 0x30#8) := by decide

/-- BVC &0212 -/
theorem test_bvc_taken :
    after (load { start with v := false } [(0x0200, 0x50#8), (0x0201, 0x10#8)])
      (fun t => (t.pc, t.pByte true)) =
    some (0x0212#16, 0x30#8) := by decide

/-- BVS &0212 -/
theorem test_bvs_taken :
    after (load { start with v := true } [(0x0200, 0x70#8), (0x0201, 0x10#8)])
      (fun t => (t.pc, t.pByte true)) =
    some (0x0212#16, 0x70#8) := by decide

/-- BNE &0182 -/
theorem test_bne_backwards :
    after (load start [(0x0200, 0xD0#8), (0x0201, 0x80#8)])
      (fun t => (t.pc, t.pByte true)) =
    some (0x0182#16, 0x30#8) := by decide

/-- BRK -/
theorem test_brk_stack_wraps :
    after (load { start with sp := 0x01#8, z := true, v := true }
      [(0x0200, 0x00#8), (0xFFFE, 0x00#8), (0xFFFF, 0xC0#8)])
      (fun t => (t.sp, t.pc, t.pByte true, Memory.read t.mem 0x0101, Memory.read t.mem 0x0100,
        Memory.read t.mem 0x01FF)) =
    some (0xFE#8, 0xC000#16, 0x76#8, 0x02#8, 0x02#8, 0x72#8) := by decide

/-- RTI -/
theorem test_rti_stack_wraps :
    after (load { start with sp := 0xFE#8 }
      [(0x0200, 0x40#8), (0x0100, 0x00#8), (0x0101, 0x80#8), (0x01FF, 0x4F#8)])
      (fun t => (t.sp, t.pc, t.pByte true)) =
    some (0x01#8, 0x8000#16, 0x7F#8) := by decide

/-- NOP -/
theorem test_nop_keeps_flags :
    after (load { start with a := 0x12#8, x := 0x34#8, y := 0x56#8, n := true, v := true, d := true, i := true, z := true, c := true }
      [(0x0200, 0xEA#8)])
      (fun t => (t.pc, t.pByte true)) =
    some (0x0201#16, 0xFF#8) := by decide

/-- CLC -/
theorem test_clc :
    after (load { start with n := true, v := true, d := true, i := true, z := true, c := true }
      [(0x0200, 0x18#8)])
      (fun t => (t.pc, t.pByte true)) =
    some (0x0201#16, 0xFE#8) := by decide

/-- CLD -/
theorem test_cld :
    after (load { start with n := true, v := true, d := true, i := true, z := true, c := true }
      [(0x0200, 0xD8#8)])
      (fun t => (t.pc, t.pByte true)) =
    some (0x0201#16, 0xF7#8) := by decide

/-- CLI -/
theorem test_cli :
    after (load { start with n := true, v := true, d := true, i := true, z := true, c := true }
      [(0x0200, 0x58#8)])
      (fun t => (t.pc, t.pByte true)) =
    some (0x0201#16, 0xFB#8) := by decide

/-- CLV -/
theorem test_clv :
    after (load { start with n := true, v := true, d := true, i := true, z := true, c := true }
      [(0x0200, 0xB8#8)])
      (fun t => (t.pc, t.pByte true)) =
    some (0x0201#16, 0xBF#8) := by decide

/-- SEC -/
theorem test_sec :
    after (load start [(0x0200, 0x38#8)])
      (fun t => (t.pc, t.pByte true)) =
    some (0x0201#16, 0x31#8) := by decide

/-- SED -/
theorem test_sed :
    after (load start [(0x0200, 0xF8#8)])
      (fun t => (t.pc, t.pByte true)) =
    some (0x0201#16, 0x38#8) := by decide

/-- SEI -/
theorem test_sei :
    after (load start [(0x0200, 0x78#8)])
      (fun t => (t.pc, t.pByte true)) =
    some (0x0201#16, 0x34#8) := by decide

/-- INX -/
theorem test_inx_wraps :
    after (load { start with c := true, v := true, x := 0xFF#8 } [(0x0200, 0xE8#8)])
      (fun t => (t.x, t.pc, t.pByte true)) =
    some (0x00#8, 0x0201#16, 0x73#8) := by decide

/-- DEX -/
theorem test_dex_wraps :
    after (load { start with c := true, v := true, x := 0x00#8 } [(0x0200, 0xCA#8)])
      (fun t => (t.x, t.pc, t.pByte true)) =
    some (0xFF#8, 0x0201#16, 0xF1#8) := by decide

/-- INY -/
theorem test_iny_wraps :
    after (load { start with c := true, v := true, y := 0xFF#8 } [(0x0200, 0xC8#8)])
      (fun t => (t.y, t.pc, t.pByte true)) =
    some (0x00#8, 0x0201#16, 0x73#8) := by decide

/-- DEY -/
theorem test_dey_wraps :
    after (load { start with c := true, v := true, y := 0x00#8 } [(0x0200, 0x88#8)])
      (fun t => (t.y, t.pc, t.pByte true)) =
    some (0xFF#8, 0x0201#16, 0xF1#8) := by decide

/-- INC &FF,X -/
theorem test_inc_page_zero_wraps :
    after (load { start with x := 0x02#8, c := true, v := true }
      [(0x0200, 0xF6#8), (0x0201, 0xFF#8), (0x0001, 0x7F#8)])
      (fun t => (t.pc, t.pByte true, Memory.read t.mem 0x0001)) =
    some (0x0202#16, 0xF1#8, 0x80#8) := by decide

/-- DEC &80 -/
theorem test_dec_wraps :
    after (load { start with c := true, v := true }
      [(0x0200, 0xC6#8), (0x0201, 0x80#8), (0x0080, 0x00#8)])
      (fun t => (t.pc, t.pByte true, Memory.read t.mem 0x0080)) =
    some (0x0202#16, 0xF1#8, 0xFF#8) := by decide

/-- JMP &1234 -/
theorem test_jmp_absolute :
    after (load { start with n := true, c := true }
      [(0x0200, 0x4C#8), (0x0201, 0x34#8), (0x0202, 0x12#8)])
      (fun t => (t.pc, t.pByte true)) =
    some (0x1234#16, 0xB1#8) := by decide

/-- JMP (&30FF) -/
theorem test_jmp_indirect_same_page :
    after (load start
      [(0x0200, 0x6C#8), (0x0201, 0xFF#8), (0x0202, 0x30#8), (0x3000, 0x12#8), (0x30FF, 0x34#8), (0x3100, 0x56#8)])
      (fun t => (t.pc, t.pByte true)) =
    some (0x1234#16, 0x30#8) := by decide

/-- JSR &3000 -/
theorem test_jsr_stack_wraps :
    after (load { start with pc := 0x20FE#16, sp := 0x00#8 }
      [(0x20FE, 0x20#8), (0x20FF, 0x00#8), (0x2100, 0x30#8)])
      (fun t => (t.sp, t.pc, t.pByte true, Memory.read t.mem 0x0100, Memory.read t.mem 0x01FF)) =
    some (0xFE#8, 0x3000#16, 0x30#8, 0x21#8, 0x00#8) := by decide

/-- RTS -/
theorem test_rts_stack_wraps :
    after (load { start with sp := 0xFF#8 } [(0x0200, 0x60#8), (0x0100, 0xFF#8), (0x0101, 0x2F#8)])
      (fun t => (t.sp, t.pc, t.pByte true)) =
    some (0x01#8, 0x3000#16, 0x30#8) := by decide

/-- LDA &FF,X -/
theorem test_lda_page_zero_wraps :
    after (load { start with x := 0x01#8 }
      [(0x0200, 0xB5#8), (0x0201, 0xFF#8), (0x0000, 0x11#8), (0x0100, 0x22#8)])
      (fun t => (t.a, t.pc, t.pByte true)) =
    some (0x11#8, 0x0202#16, 0x30#8) := by decide

/-- LDA (&FF,X) -/
theorem test_lda_pointer_wraps :
    after (load { start with x := 0x00#8 }
      [(0x0200, 0xA1#8), (0x0201, 0xFF#8), (0x0000, 0x30#8), (0x00FF, 0x00#8), (0x0100, 0x40#8), (0x3000, 0xCD#8), (0x4000, 0xEE#8)])
      (fun t => (t.a, t.pc, t.pByte true)) =
    some (0xCD#8, 0x0202#16, 0xB0#8) := by decide

/-- LDX &30FF,Y -/
theorem test_ldx_crosses_page :
    after (load { start with y := 0x01#8 }
      [(0x0200, 0xBE#8), (0x0201, 0xFF#8), (0x0202, 0x30#8), (0x3100, 0xFF#8)])
      (fun t => (t.x, t.pc, t.pByte true)) =
    some (0xFF#8, 0x0203#16, 0xB0#8) := by decide

/-- LDY &30FF,X -/
theorem test_ldy_crosses_page :
    after (load { start with x := 0x02#8 }
      [(0x0200, 0xBC#8), (0x0201, 0xFF#8), (0x0202, 0x30#8), (0x3101, 0x05#8)])
      (fun t => (t.y, t.pc, t.pByte true)) =
    some (0x05#8, 0x0203#16, 0x30#8) := by decide

/-- STA &FFFF,Y -/
theorem test_sta_address_wraps :
    after (load { start with a := 0x42#8, y := 0x01#8 }
      [(0x0200, 0x99#8), (0x0201, 0xFF#8), (0x0202, 0xFF#8)])
      (fun t => (t.pc, t.pByte true, Memory.read t.mem 0x0000)) =
    some (0x0203#16, 0x30#8, 0x42#8) := by decide

/-- STA (&70),Y -/
theorem test_sta_crosses_page :
    after (load { start with a := 0x42#8, y := 0x10#8 }
      [(0x0200, 0x91#8), (0x0201, 0x70#8), (0x0070, 0xF8#8), (0x0071, 0x30#8)])
      (fun t => (t.pc, t.pByte true, Memory.read t.mem 0x3108)) =
    some (0x0202#16, 0x30#8, 0x42#8) := by decide

/-- STX &F8,Y -/
theorem test_stx_page_zero_wraps :
    after (load { start with x := 0x55#8, y := 0x10#8 } [(0x0200, 0x96#8), (0x0201, 0xF8#8)])
      (fun t => (t.pc, t.pByte true, Memory.read t.mem 0x0008)) =
    some (0x0202#16, 0x30#8, 0x55#8) := by decide

/-- STY &80,X -/
theorem test_sty_page_zero_wraps :
    after (load { start with y := 0xAA#8, x := 0x90#8 } [(0x0200, 0x94#8), (0x0201, 0x80#8)])
      (fun t => (t.pc, t.pByte true, Memory.read t.mem 0x0010)) =
    some (0x0202#16, 0x30#8, 0xAA#8) := by decide

/-- PHA -/
theorem test_pha_stack_wraps :
    after (load { start with a := 0x00#8, sp := 0x00#8, n := true } [(0x0200, 0x48#8)])
      (fun t => (t.sp, t.pc, t.pByte true, Memory.read t.mem 0x0100)) =
    some (0xFF#8, 0x0201#16, 0xB0#8, 0x00#8) := by decide

/-- PHP -/
theorem test_php_bits_5_and_4 :
    after (load { start with n := true, i := true, c := true } [(0x0200, 0x08#8)])
      (fun t => (t.sp, t.pc, t.pByte true, Memory.read t.mem 0x01FF)) =
    some (0xFE#8, 0x0201#16, 0xB5#8, 0xB5#8) := by decide

/-- PLA -/
theorem test_pla_stack_wraps :
    after (load { start with sp := 0xFF#8 } [(0x0200, 0x68#8), (0x0100, 0x80#8)])
      (fun t => (t.a, t.sp, t.pc, t.pByte true)) =
    some (0x80#8, 0x00#8, 0x0201#16, 0xB0#8) := by decide

/-- PLP -/
theorem test_plp_ignores_bits_5_and_4 :
    after (load { start with sp := 0xFE#8, n := true, v := true, d := true, i := true, z := true, c := true }
      [(0x0200, 0x28#8), (0x01FF, 0x00#8)])
      (fun t => (t.sp, t.pc, t.pByte true)) =
    some (0xFF#8, 0x0201#16, 0x30#8) := by decide

/-- TAX -/
theorem test_tax :
    after (load { start with a := 0x00#8, x := 0x55#8, n := true } [(0x0200, 0xAA#8)])
      (fun t => (t.x, t.pc, t.pByte true)) =
    some (0x00#8, 0x0201#16, 0x32#8) := by decide

/-- TAY -/
theorem test_tay :
    after (load { start with a := 0x00#8, y := 0x01#8 } [(0x0200, 0xA8#8)])
      (fun t => (t.y, t.pc, t.pByte true)) =
    some (0x00#8, 0x0201#16, 0x32#8) := by decide

/-- TSX -/
theorem test_tsx :
    after (load { start with sp := 0xFD#8 } [(0x0200, 0xBA#8)])
      (fun t => (t.x, t.pc, t.pByte true)) =
    some (0xFD#8, 0x0201#16, 0xB0#8) := by decide

/-- TXA -/
theorem test_txa :
    after (load { start with x := 0xFF#8 } [(0x0200, 0x8A#8)])
      (fun t => (t.a, t.pc, t.pByte true)) =
    some (0xFF#8, 0x0201#16, 0xB0#8) := by decide

/-- TXS -/
theorem test_txs_keeps_flags :
    after (load { start with x := 0x00#8, sp := 0xFF#8, n := true, z := false } [(0x0200, 0x9A#8)])
      (fun t => (t.sp, t.pc, t.pByte true)) =
    some (0x00#8, 0x0201#16, 0xB0#8) := by decide

/-- TYA -/
theorem test_tya :
    after (load { start with y := 0x80#8 } [(0x0200, 0x98#8)])
      (fun t => (t.a, t.pc, t.pByte true)) =
    some (0x80#8, 0x0201#16, 0xB0#8) := by decide

/-! ## Boundaries, reset, devices -/

/-- A map with one region that is not ram. -/
def mapped (base size : Nat) (kind : AddrKind) : Platform :=
  { memMap := [{ base := base, size := size, kind := kind }], decimal := .nmos }

/-- No signal but NMI, no signal but IRQ, no signal but RESET. -/
def nmiEdgeOnly : Signals := { reset := false, nmi := true, irq := false }

def irqOnly : Signals := { reset := false, nmi := false, irq := true }

def resetOnly : Signals := { reset := true, nmi := false, irq := false }

/-- An NMI is taken through &FFFA with B clear, I or no I (R303, R305). -/
theorem test_nmi_taken :
    after (load { start with i := true, iPrev := true, inputs := [nmiEdgeOnly] }
      [(0x0200, 0xEA#8), (0xFFFA, 0x00#8), (0xFFFB, 0x90#8)])
      (fun t => (t.pc, t.sp, Memory.read t.mem 0x01FF, Memory.read t.mem 0x01FE, Memory.read t.mem 0x01FD)) =
    some (0x9000#16, 0xFC#8, 0x02#8, 0x00#8, 0x24#8) := by decide

/-- The entry of an IRQ: &FFFE, B clear, I set (R303, R304). -/
theorem test_irq_entry :
    (match takeIrq (load start [(0xFFFE, 0x34#8), (0xFFFF, 0x12#8)]) with
      | .next t => (t.pc, t.i, Memory.read t.mem 0x01FD) == (0x1234#16, true, 0x20#8)
      | _ => false) = true := by decide

/-- A masked IRQ waits: the NOP at PC is executed (R304). -/
theorem test_irq_masked :
    after (load { start with i := true, iPrev := true, inputs := [irqOnly] }
      [(0x0200, 0xEA#8)]) (fun t => (t.pc, t.sp)) = some (0x0201#16, 0xFF#8) := by decide

/-- BRK's frame through the NMI vector (R306, outcome (c)). -/
theorem test_brk_captured :
    (match captureBrk (load start [(0xFFFA, 0x34#8), (0xFFFB, 0x12#8)]) with
      | .next t => (t.pc, Memory.read t.mem 0x01FE, Memory.read t.mem 0x01FD) == (0x1234#16, 0x02#8, 0x30#8)
      | _ => false) = true := by decide

/-- RESET comes before NMI; SP falls by three and nothing is stored (R306, R340). -/
theorem test_reset_first :
    after (load { start with sp := 0x01#8, inputs := [{ reset := true, nmi := true, irq := true }] }
      [(0xFFFC, 0x34#8), (0xFFFD, 0x12#8)])
      (fun t => (t.pc, t.sp, t.i, t.nmiPending, Memory.read t.mem 0x0101)) =
    some (0x1234#16, 0xFE#8, true, false, 0x00#8) := by decide

/-- The reset sequence takes a power-up with the values of assumption log 2 to `State.reset`. -/
theorem test_power_on :
    resetSequence { State.reset with sp := 0x00#8, i := false, iPrev := false, nmiPending := true } =
      .next State.reset := rfl

/-- A load from a device's address is refused; so is one whose un-carried address is a device's (R66). -/
theorem test_device_refused :
    exec (.ldaAbs 0x3000#16) { start with platform := mapped 0x3000 1 .device } =
        .refused (.deviceAccess 0x3000#16) ∧
    exec (.ldaAbx 0x30FF#16) { start with x := 0x01#8, platform := mapped 0x3000 1 .device } =
        .refused (.deviceAccess 0x3000#16) := ⟨rfl, rfl⟩

/-- The dummy reads of R66 refuse at a device's address too (93 U8): the byte after a one-byte instruction, the
stack location below the byte pulled, and the three stack reads of reset (R340). -/
theorem test_dummy_reads_refused :
    exec .nop { start with platform := mapped 0x0201 1 .device } = .refused (.deviceAccess 0x0201#16) ∧
    exec .pla { start with sp := 0x10#8, platform := mapped 0x0110 1 .device } =
        .refused (.deviceAccess 0x0110#16) ∧
    resetSequence { start with platform := mapped 0x01FD 1 .device } = .refused (.deviceAccess 0x01FD#16) :=
  ⟨rfl, rfl, rfl⟩

/-- A store to rom is ignored (R57). -/
theorem test_rom_ignored :
    (match exec (.staAbs 0x3000#16) { start with a := 0x42#8, platform := mapped 0x3000 1 .rom } with
      | .next t => t.mem == [] && t.pc == 0x0203#16
      | _ => false) = true := by decide

/-- `withFetchWord` puts the instruction where the next step fetches it. -/
theorem test_fetch_word : after (State.reset.withFetchWord 16 0x05A9) (fun t => (t.a, t.pc)) =
    some (0x05#8, 0x0002#16) := by decide

/-! ## Witnesses: the hypotheses of each statement can be met -/

theorem kind_ram (s : State) (h : s.platform.memMap = []) (a : Addr) : s.kindAt a = .ram := by
  simp [State.kindAt, h, kindIn]

theorem clear_ram (s : State) (h : s.platform.memMap = []) (as : List Addr) : s.clear as :=
  fun a _ => by simp [kind_ram s h a]

theorem stored_ram (s : State) (h : s.platform.memMap = []) (as : List Addr) : AllStored s as :=
  fun a _ => .inl (kind_ram s h a)

theorem accessible_ram (i : Instr) (s : State) (h : s.platform.memMap = []) : Accessible i s := clear_ram s h _

theorem witness_DecodeInvertsEncode :
    decode [0x6C#8, 0xFF#8, 0x30#8, 0xEA#8] = .ok (.jmpInd 0x30FF#16, [0xEA#8]) ∧
    decode [0x6C#8, 0xFF#8] ≠ .ok (.jmpInd 0x00FF#16, []) := by decide

theorem witness_OpcodeMapIsTheTable :
    Instr.opcode (.ldaImm 0x00#8) = Instr.opcode (.ldaImm 0xFF#8) ∧ (Mode.ABX, 0xFE#8) ∈ opcodeRows .INC := by
  decide

theorem witness_FormsAreTheMatrix :
    Written.wellFormed { mnemonic := .JMP, mode := .IND, value := 65535 } = true ∧
    Written.wellFormed { mnemonic := .STA, mode := .IMM, value := 0 } = false := by decide

theorem witness_UnlistedOpcodesAreRefused :
    boundary (load start [(0x0200, 0x02#8)]) = .execute (load start [(0x0200, 0x02#8)]) ∧
    (load start [(0x0200, 0x02#8)]).kindAt 0x0200#16 ≠ .device ∧
    (load start [(0x0200, 0x02#8)]).peek 0x0200#16 ∈ unlisted := ⟨rfl, by decide, by decide⟩

/-- A three-byte instruction whose bytes wrap round the top of memory. -/
def atTop : State :=
  load { start with pc := 0xFFFE#16 } [(0xFFFE, 0xAD#8), (0xFFFF, 0x34#8), (0x0000, 0x12#8)]

theorem witness_StepRunsDecodedInstruction :
    boundary atTop = .execute atTop ∧
    atTop.clear (atTop.pc :: operandAddrs atTop.pc (Instr.length (.ldaAbs 0x1234#16))) ∧
    atTop.peeks (atTop.pc :: operandAddrs atTop.pc (Instr.length (.ldaAbs 0x1234#16))) =
      encode (.ldaAbs 0x1234#16) ∧
    atTop.quiet := ⟨rfl, clear_ram _ rfl _, by decide, rfl, rfl⟩

/-- The op-code of LDA abs at &0200, the byte at &0202 a device's. -/
def deviceOperand : State :=
  { load start [(0x0200, 0xAD#8)] with platform := mapped 0x0202 1 .device }

theorem witness_FetchFromDeviceIsRefused :
    (boundary { start with platform := mapped 0x0200 1 .device } =
        .execute { start with platform := mapped 0x0200 1 .device } ∧
      State.kindAt { start with platform := mapped 0x0200 1 .device } 0x0200#16 = .device) ∧
    boundary deviceOperand = .execute deviceOperand ∧ deviceOperand.kindAt deviceOperand.pc ≠ .device ∧
    deviceOperand.peek deviceOperand.pc = Instr.opcode (.ldaAbs 0x0000#16) ∧
    ¬ deviceOperand.clear (operandAddrs deviceOperand.pc (Instr.length (.ldaAbs 0x0000#16))) :=
  ⟨⟨rfl, by decide⟩, rfl, by decide, by decide, fun h => h 0x0202#16 (by decide) (by decide)⟩

theorem witness_EffectiveAddresses :
    State.peeks (load start [(0x00FF, 0x34#8), (0x0000, 0x12#8)])
      [0x00#8 ++ (0xFF#8 + start.x), 0x00#8 ++ (0xFF#8 + start.x + 1#8)] = [0x34#8, 0x12#8] ∧
    State.peeks (load start [(0x00FF, 0x34#8), (0x0000, 0x12#8)])
      [0x00#8 ++ 0xFF#8, 0x00#8 ++ (0xFF#8 + 1#8)] = [0x34#8, 0x12#8] := by decide

theorem witness_OperandIsTheStoredByte :
    AllStored start [0x0000#16, 0xFFFF#16] ∧
    AllStored start (start.pointerAddrs (.izy 0xFF#8) ++ [start.ea (.izy 0xFF#8)]) ∧
    AllStored { start with platform := mapped 0x8000 0x4000 .rom } [0x8000#16] :=
  ⟨stored_ram _ rfl _, stored_ram _ rfl _, fun a h => by
    obtain rfl : a = 0x8000#16 := by simpa using h
    exact .inr (by decide)⟩

theorem witness_AddResult :
    (Instr.mnemonic (.adcIzy 0xFF#8) = .ADC ∧ Accessible (.adcIzy 0xFF#8) start ∧ start.d = false) ∧
    (Accessible (.adcImm 0x99#8) { start with d := true } ∧ start.platform.decimal = .nmos) :=
  ⟨⟨rfl, accessible_ram _ _ rfl, rfl⟩, accessible_ram _ _ rfl, rfl⟩

theorem witness_SubtractResult :
    (Instr.mnemonic (.sbcIzx 0xFF#8) = .SBC ∧ Accessible (.sbcIzx 0xFF#8) start ∧ start.d = false) ∧
    (Accessible (.sbcImm 0x99#8) { start with d := true } ∧ start.platform.decimal = .nmos) :=
  ⟨⟨rfl, accessible_ram _ _ rfl, rfl⟩, accessible_ram _ _ rfl, rfl⟩

theorem witness_BinaryArithmeticIsExact :
    start.d = false ∧ (∃ t, exec (.adcImm 0xFF#8) start = .next t) ∧ ∃ t, exec (.sbcImm 0x80#8) start = .next t :=
  ⟨rfl, ⟨_, rfl⟩, _, rfl⟩

theorem witness_DecimalArithmeticIsDecimal :
    validBcd 0x99#8 = true ∧ validBcd (operand (.adcImm 0x01#8) start) = true ∧
    (∃ t, exec (.adcImm 0x01#8) { start with a := 0x99#8, d := true } = .next t) ∧
    ∃ t, exec (.sbcImm 0x01#8) { start with a := 0x99#8, d := true } = .next t :=
  ⟨by decide, by decide, ⟨_, rfl⟩, _, rfl⟩

/-- Decimal mode under the conservative reading. -/
def conservative : State := { start with a := 0x99#8, d := true, platform := { memMap := [], decimal := .conservative } }

theorem witness_ConservativeDecimalLeavesFlagsOpen :
    Accessible (.adcZp 0x10#8) conservative ∧ Accessible (.sbcImm 0x01#8) conservative ∧ conservative.d = true ∧
    conservative.platform.decimal = .conservative ∧
    (validBcd conservative.a = true ∧ validBcd (operand (.sbcImm 0x01#8) conservative) = true) ∧
    (∃ u, exec (.sbcImm 0x01#8) { conservative with platform := { conservative.platform with decimal := .nmos } } =
      .next u) ∧
    ¬ (validBcd conservative.a = true ∧ validBcd (operand (.adcImm 0x0A#8) conservative) = true) :=
  ⟨accessible_ram _ _ rfl, accessible_ram _ _ rfl, rfl, rfl, by decide, ⟨_, rfl⟩, by decide⟩

theorem witness_CompareResults :
    Accessible (.cmpIzy 0xFF#8) start ∧ Accessible (.cpxAbs 0xFFFF#16) start ∧ Accessible (.cpyImm 0x00#8) start :=
  ⟨accessible_ram _ _ rfl, accessible_ram _ _ rfl, accessible_ram _ _ rfl⟩

theorem witness_LogicalResults :
    Accessible (.andZpx 0xFF#8) start ∧ Accessible (.eorAbx 0xFFFF#16) start ∧ Accessible (.oraImm 0x00#8) start :=
  ⟨accessible_ram _ _ rfl, accessible_ram _ _ rfl, accessible_ram _ _ rfl⟩

theorem witness_BitTestResult :
    Instr.mnemonic (.bitAbs 0xFFFF#16) = .BIT ∧ Accessible (.bitAbs 0xFFFF#16) start :=
  ⟨rfl, accessible_ram _ _ rfl⟩

theorem witness_ShiftResults :
    (Instr.operand (.aslAbx 0xFFFF#16) = .mem (.abx 0xFFFF#16) ∧ Accessible (.aslAbx 0xFFFF#16) start) ∧
    Accessible (.lsrZp 0xFF#8) start ∧ Accessible (.rolZpx 0x00#8) start ∧ Accessible (.rorAbs 0x0000#16) start :=
  ⟨⟨rfl, accessible_ram _ _ rfl⟩, accessible_ram _ _ rfl, accessible_ram _ _ rfl, accessible_ram _ _ rfl⟩

/-- The hypothesis of the one-byte instructions (shifts of A, flags, index steps, transfers), at the top of
memory. -/
theorem witness_OneByteInstructions :
    start.clear [start.pc + 1#16] ∧ State.clear { start with pc := 0xFFFF#16 } [0xFFFF#16 + 1#16] :=
  ⟨clear_ram _ rfl _, clear_ram _ rfl _⟩

theorem witness_BreakResult : Accessible .brk start ∧ Accessible .brk { start with sp := 0x00#8, pc := 0xFFFF#16 } :=
  ⟨accessible_ram _ _ rfl, accessible_ram _ _ rfl⟩

theorem witness_ReturnFromInterruptResult :
    Accessible .rti { start with sp := 0xFE#8 } ∧
    State.peeks { start with sp := 0xFE#8 } (stackTop { start with sp := 0xFE#8 } 3) = [0x00#8, 0x00#8, 0x00#8] :=
  ⟨clear_ram _ rfl _, by decide⟩

theorem witness_MemoryStepResults :
    (Instr.operand (.decZpx 0xFF#8) = .mem (.zpx 0xFF#8) ∧ Accessible (.decZpx 0xFF#8) start) ∧
    Accessible (.incAbx 0xFFFF#16) start := ⟨⟨rfl, accessible_ram _ _ rfl⟩, accessible_ram _ _ rfl⟩

theorem witness_JumpResults :
    Accessible (.jmpInd 0x30FF#16) start ∧
    State.peeks (load start [(0x30FF, 0x34#8), (0x3000, 0x12#8)])
      [0x30FF#16, hiByte 0x30FF#16 ++ (loByte 0x30FF#16 + 1#8)] = [0x34#8, 0x12#8] :=
  ⟨clear_ram _ rfl _, by decide⟩

theorem witness_CallResult : Accessible (.jsr 0x3000#16) { start with sp := 0x00#8 } :=
  clear_ram _ rfl _

theorem witness_SubroutineReturnResult :
    Accessible .rts start ∧ start.peeks (stackTop start 2) = [0x00#8, 0x00#8] :=
  ⟨clear_ram _ rfl _, by decide⟩

theorem witness_CallThenReturn :
    AllRam start (freeSlots start 2) ∧
    ∃ t u, exec (.jsr 0x3000#16) start = .next t ∧ exec .rts t = .next u :=
  ⟨fun a _ => kind_ram start rfl a, _, _, rfl, rfl⟩

theorem witness_BreakThenReturn :
    AllRam start (freeSlots start 3) ∧ AllStored start [0xFFFE#16, 0xFFFF#16] ∧
    ∃ t u, exec .brk start = .next t ∧ exec .rti t = .next u :=
  ⟨fun a _ => kind_ram start rfl a, stored_ram _ rfl _, _, _, rfl, rfl⟩

theorem witness_LoadResults :
    Accessible (.ldaIzx 0xFF#8) start ∧ Accessible (.ldxZpy 0xFF#8) start ∧ Accessible (.ldyAbx 0xFFFF#16) start :=
  ⟨accessible_ram _ _ rfl, accessible_ram _ _ rfl, accessible_ram _ _ rfl⟩

theorem witness_StoreResults :
    (Instr.operand (.staIzy 0xFF#8) = .mem (.izy 0xFF#8) ∧ Accessible (.staIzy 0xFF#8) start) ∧
    Accessible (.stxZpy 0xFF#8) start ∧ Accessible (.styAbs 0x0000#16) start :=
  ⟨⟨rfl, accessible_ram _ _ rfl⟩, accessible_ram _ _ rfl, accessible_ram _ _ rfl⟩

theorem witness_LoadSeesLatestStore :
    start.kindAt (start.ea (.zp 0x10#8)) = .ram ∧
    ∃ t u, exec (.staZp 0x10#8) start = .next t ∧ t.ea (.abs 0x0010#16) = start.ea (.zp 0x10#8) ∧
      exec (.ldaAbs 0x0010#16) t = .next u := ⟨rfl, _, _, rfl, rfl, rfl⟩

/-- About to store NOP's op-code at the address that follows the store. -/
def selfModifying : State := { start with a := 0xEA#8 }

theorem witness_FetchSeesLatestStore :
    selfModifying.kindAt (selfModifying.ea (.abs 0x0203#16)) = .ram ∧ Instr.length .nop = 1 ∧
    selfModifying.a = Instr.opcode .nop ∧
    ∃ t, exec (.staAbs 0x0203#16) selfModifying = .next t ∧ t.pc = selfModifying.ea (.abs 0x0203#16) :=
  ⟨rfl, rfl, rfl, _, rfl, rfl⟩

theorem witness_PushResults : State.clear { start with sp := 0x00#8 } [start.pc + 1#16, stackAddr 0x00#8] := clear_ram _ rfl _

theorem witness_PullResults : start.clear ((start.pc + 1#16) :: stackAddr start.sp :: stackTop start 1) ∧ start.peeks (stackTop start 1) = [0x00#8] :=
  ⟨clear_ram _ rfl _, by decide⟩

theorem witness_InterruptEntry :
    (IsVector 0xFFFA#16 ∧ start.clear (entrySpace start 0xFFFA#16)) ∧
    (IsVector 0xFFFC#16 ∧ start.clear (entrySpace start 0xFFFC#16)) ∧
    IsVector 0xFFFE#16 ∧ start.clear (entrySpace start 0xFFFE#16) :=
  ⟨⟨.inl rfl, clear_ram _ rfl _⟩, ⟨.inr (.inl rfl), clear_ram _ rfl _⟩, .inr (.inr rfl), clear_ram _ rfl _⟩

theorem witness_ResetAtBoundary :
    (State.signals { start with inputs := [resetOnly] }).reset = true ∧
    State.clear { start with inputs := [resetOnly] } (entrySpace { start with inputs := [resetOnly] } 0xFFFC#16) := ⟨rfl, clear_ram _ rfl _⟩

/-- A NOP at PC. -/
def atNop : State := load start [(0x0200, 0xEA#8)]

theorem witness_NmiIsTaken :
    (State.signals { atNop with nmiPending := true }).reset = false ∧
    State.clear { atNop with nmiPending := true } (entrySpace { atNop with nmiPending := true } 0xFFFA#16) ∧
    (State.signals { atNop with inputs := [nmiEdgeOnly] }).nmi = true ∧
    (State.signals { atNop with inputs := [nmiEdgeOnly] }).reset = false ∧
    atNop.kindAt atNop.pc ≠ .device ∧ atNop.peek atNop.pc ≠ 0x00#8 :=
  ⟨rfl, clear_ram _ rfl _, rfl, rfl, by decide, by decide⟩

/-- A BRK at PC, and an NMI edge. -/
def brkAndNmi : State := { start with inputs := [nmiEdgeOnly] }

theorem witness_NmiMeetsBreak :
    brkAndNmi.signals.reset = false ∧ brkAndNmi.nmiPending = false ∧ brkAndNmi.signals.nmi = true ∧
    brkAndNmi.kindAt brkAndNmi.pc ≠ .device ∧ brkAndNmi.peek brkAndNmi.pc = 0x00#8 ∧
    brkAndNmi.clear (entrySpace brkAndNmi 0xFFFA#16) ∧ Accessible .brk brkAndNmi :=
  ⟨rfl, rfl, rfl, by decide, by decide, clear_ram _ rfl _, accessible_ram _ _ rfl⟩

/-- An IRQ requested; `i` and `prev` are I and I_prev. -/
def irqWith (i prev : Bool) : State := { atNop with i := i, iPrev := prev, inputs := [irqOnly] }

theorem witness_IrqIsTakenOrDeferred :
    ((irqWith false true).signals = irqOnly ∧ (irqWith false true).i = false) ∧
    ((irqWith true false).signals = irqOnly ∧ (irqWith true false).iPrev = false) ∧
    (irqWith true false).nmiPending = false ∧
    (irqWith true false).clear (entrySpace (irqWith true false) 0xFFFE#16) :=
  ⟨⟨rfl, rfl⟩, ⟨rfl, rfl⟩, rfl, clear_ram _ rfl _⟩

theorem witness_MaskedIrqIsNotTaken :
    (irqWith true true).signals.reset = false ∧ (irqWith true true).signals.nmi = false ∧
    (irqWith true true).nmiPending = false ∧ (irqWith true true).i = true ∧ (irqWith true true).iPrev = true :=
  ⟨rfl, rfl, rfl, rfl, rfl⟩

theorem witness_MaskLatency :
    (∃ t, exec .rti start = .next t) ∧ (∃ t, exec .brk start = .next t) ∧ start.i = false ∧
    ∃ t u, exec .sei start = .next t ∧ exec .nop t = .next u := ⟨⟨_, rfl⟩, ⟨_, rfl⟩, rfl, _, _, rfl, rfl⟩

theorem witness_EntryKeepsFlagsAndRegisters :
    (∃ t, exec .brk start = .next t) ∧ (∃ t, takeIrq start = .next t) ∧ (∃ t, takeNmi start = .next t) ∧
    (∃ t, captureBrk start = .next t) ∧ (∃ t, resetSequence start = .next t) ∧ ∃ t, exec .rti start = .next t :=
  ⟨⟨_, rfl⟩, ⟨_, rfl⟩, ⟨_, rfl⟩, ⟨_, rfl⟩, ⟨_, rfl⟩, _, rfl⟩

theorem witness_StepKeepsInvariant :
    (load start [(0x0200, 0x85#8), (0x0201, 0x10#8)]).Inv ∧
    ∃ t, step (load start [(0x0200, 0x85#8), (0x0201, 0x10#8)]) = .next t := ⟨by unfold State.Inv; decide, _, rfl⟩

/-- STA &8000 at &0200, with rom from &8000 on. -/
def storesToRom : State :=
  { load start [(0x0200, 0x8D#8), (0x0201, 0x00#8), (0x0202, 0x80#8)] with
    a := 0x42#8, platform := mapped 0x8000 0x4000 .rom }

theorem witness_OnlyRamChanges :
    (∃ t, step storesToRom = .next t) ∧ storesToRom.kindAt 0x8000#16 ≠ .ram := ⟨⟨_, rfl⟩, by decide⟩

theorem witness_EveryInstructionCompletes : start.deviceFree ∧ Accessible .rti start :=
  ⟨fun a => by simp [kind_ram start rfl a], accessible_ram _ _ rfl⟩

theorem witness_RunsStopOnlyAtUnlistedOpcodes :
    start.deviceFree ∧ (∃ t, step start = .next t ∧ Reaches start t) ∧
    step (load start [(0x0200, 0xFF#8)]) = .refused (.unlistedOpcode 0xFF#8) :=
  ⟨witness_EveryInstructionCompletes.1, ⟨_, rfl, .tail .refl rfl⟩, rfl⟩

theorem witness_FlagsWrittenByTheTable :
    (∃ t, exec .clc { start with c := true } = .next t ∧ t.c = false) ∧ (flagsWritten .CLC).v = false :=
  ⟨⟨_, rfl, rfl⟩, rfl⟩

theorem witness_RegistersWrittenOnlyBy :
    (∃ t, exec .txa { start with x := 0x01#8 } = .next t ∧ t.a ≠ start.a) ∧
    (∃ t, exec .aslAcc { start with a := 0x01#8 } = .next t ∧ t.a ≠ 0x01#8) ∧
    (∃ t, exec .inx start = .next t ∧ t.x ≠ start.x) ∧ (∃ t, exec .iny start = .next t ∧ t.y ≠ start.y) ∧
    ∃ t, exec .pha start = .next t ∧ t.sp ≠ start.sp :=
  ⟨⟨_, rfl, by decide⟩, ⟨_, rfl, by decide⟩, ⟨_, rfl, by decide⟩, ⟨_, rfl, by decide⟩, _, rfl, by decide⟩

theorem witness_MemoryWrittenOnlyBy :
    (∃ t, exec (.incZp 0x10#8) start = .next t ∧
      Memory.read t.mem (0x0010#16).toNat ≠ Memory.read start.mem (0x0010#16).toNat) ∧
    ∃ t, exec .php start = .next t ∧
      Memory.read t.mem (0x01FF#16).toNat ≠ Memory.read start.mem (0x01FF#16).toNat :=
  ⟨⟨_, rfl, by decide⟩, _, rfl, by decide⟩

theorem witness_InstructionsLeaveTheEnvironment :
    ∃ t, exec (.ldaAbs 0x3000#16) { start with platform := mapped 0x3000 1 .unmapped } = .next t := ⟨_, rfl⟩

/-- A device at &3000. -/
def withDevice : State := { start with x := 0x01#8, platform := mapped 0x3000 1 .device }

theorem witness_DeviceAccessIsRefused :
    ¬ Accessible (.staAbx 0x30FF#16) withDevice ∧ ¬ Accessible (.jmpInd 0x30FF#16) withDevice ∧
    ¬ Accessible .rts { start with platform := mapped 0x01FF 1 .device } ∧
    ¬ Accessible .brk { start with platform := mapped 0xFFFF 1 .device } ∧
    ¬ Accessible .aslAcc { start with platform := mapped 0x0201 1 .device } :=
  ⟨fun h => h 0x3000#16 (by decide) (by decide), fun h => h 0x3000#16 (by decide) (by decide),
    fun h => h 0x01FF#16 (by decide) (by decide), fun h => h 0xFFFF#16 (by decide) (by decide),
    fun h => h 0x0201#16 (by decide) (by decide)⟩

/-- A device in the stack page, and the given signals and pending NMI. -/
def deviceOnStack (sig : Signals) (pending : Bool) : State :=
  { start with inputs := [sig], nmiPending := pending, platform := mapped 0x01FD 1 .device }

theorem witness_EntryAtDeviceIsRefused :
    (IsVector 0xFFFE#16 ∧
      ¬ (deviceOnStack irqOnly false).clear (entrySpace (deviceOnStack irqOnly false) 0xFFFE#16)) ∧
    ((deviceOnStack resetOnly false).signals.reset = true ∧
      ¬ (deviceOnStack resetOnly false).clear (entrySpace (deviceOnStack resetOnly false) 0xFFFC#16)) ∧
    ((deviceOnStack irqOnly true).signals.reset = false ∧ (deviceOnStack irqOnly true).nmiPending = true ∧
      ¬ (deviceOnStack irqOnly true).clear (entrySpace (deviceOnStack irqOnly true) 0xFFFA#16)) ∧
    ((deviceOnStack nmiEdgeOnly false).signals.nmi = true ∧
      (load (deviceOnStack nmiEdgeOnly false) [(0x0200, 0xEA#8)]).peek 0x0200#16 ≠ 0x00#8) ∧
    ((deviceOnStack nmiEdgeOnly false).nmiPending = false ∧
      (deviceOnStack nmiEdgeOnly false).kindAt 0x0200#16 ≠ .device ∧
      (deviceOnStack nmiEdgeOnly false).peek 0x0200#16 = 0x00#8 ∧
      ¬ (deviceOnStack nmiEdgeOnly false).clear (entrySpace (deviceOnStack nmiEdgeOnly false) 0xFFFA#16)) ∧
    (deviceOnStack irqOnly false).signals = { reset := false, nmi := false, irq := true } ∧
    (deviceOnStack irqOnly false).i = false :=
  ⟨⟨.inr (.inr rfl), fun h => h 0x01FD#16 (by decide) (by decide)⟩,
    ⟨rfl, fun h => h 0x01FD#16 (by decide) (by decide)⟩,
    ⟨rfl, rfl, fun h => h 0x01FD#16 (by decide) (by decide)⟩, ⟨rfl, by decide⟩,
    ⟨rfl, by decide, by decide, fun h => h 0x01FD#16 (by decide) (by decide)⟩, rfl, rfl⟩

theorem witness_UnmappedReadsAreFresh :
    State.kindAt { start with platform := mapped 0x3000 1 .unmapped }
      (State.ea { start with platform := mapped 0x3000 1 .unmapped } (.abs 0x3000#16)) = .unmapped ∧
    Accessible (.ldaAbs 0x3000#16) { start with platform := mapped 0x3000 1 .unmapped } :=
  ⟨by decide, fun a h => by
    obtain rfl : a = 0x3000#16 := by
      revert h
      simp [touched, Instr.operand, Instr.mnemonic, Instr.form, State.touches, State.pointerAddrs, State.pointer,
        State.ea, State.base, State.indexOf, State.partner]
    decide⟩

/-- JMP &0200 at &0200. -/
def selfJump : State := load start [(0x0200, 0x4C#8), (0x0201, 0x00#8), (0x0202, 0x02#8)]

theorem witness_SelfJumpLoops :
    selfJump.atSelfJump = true ∧ selfJump.inputs = [] ∧ selfJump.nmiPending = false := ⟨by decide, rfl, rfl⟩

end Sys2Proof.Tests
end

section
/-! The decoder inverts the encoder on an instruction's own bytes (30_encoding.md R82, R83), so the fetch of
those bytes gives the instruction, and a step where the boundary executes runs it (00_scope.md R11). -/

namespace Sys2Proof

/-- The bytes of an instruction are its op-code, then its operand bytes. -/
theorem encode_eq_opcode_cons (i : Instr) : encode i = i.opcode :: (encode i).tail := by
  cases i <;> rfl

/-- R80, R82: the op-code byte alone gives the length. -/
@[simp] theorem opcodeLength_opcode (i : Instr) : opcodeLength i.opcode = some i.length := by
  cases i <;> rfl

/-- R83: the op-code selects the instruction, and the operand bytes after it give the operand back. With the
op-code a literal `decodeOp` computes; the two bytes of an address are then put together (`joinAddr_split`). -/
theorem decodeOp_of_encode {i : Instr} {op : Byte} {operands : List Byte} (h : encode i = op :: operands)
    (rest : List Byte) :
    decodeOp op ((operands ++ rest).getD 0 0x00#8) ((operands ++ rest).getD 1 0x00#8) = some i := by
  cases i
  all_goals
    cases h
    change some _ = some _
    simp [joinAddr_split]

/-- Decoding an instruction's bytes gives the instruction and leaves what follows them. -/
theorem decode_encode_append (i : Instr) (rest : List Byte) : decode (encode i ++ rest) = .ok (i, rest) := by
  have hlen : i.length = (encode i).tail.length + 1 := by
    rw [Instr.length, encode_eq_opcode_cons i]; rfl
  have hlong : ¬ ((encode i).tail ++ rest).length + 1 < i.length := by
    rw [hlen, List.length_append]; omega
  rw [encode_eq_opcode_cons, List.cons_append, decode, decodeOp_of_encode (encode_eq_opcode_cons i)]
  simp only [hlong, if_false]
  rw [hlen, Nat.add_sub_cancel, List.drop_left]

namespace Machine

/-- The converse of `fetch_next` on an instruction's own bytes: where they stand at PC, none of them a
device's, the fetch gives the instruction and has read them. -/
theorem fetch_encode {s : State} {i : Instr} (hclear : s.clear (s.pc :: operandAddrs s.pc i.length))
    (hbytes : s.peeks (s.pc :: operandAddrs s.pc i.length) = encode i) :
    fetch s = .next (i, s.afterReads (s.pc :: operandAddrs s.pc i.length)) := by
  have hdecode : decode (s.peeks (s.pc :: operandAddrs s.pc i.length)) = .ok (i, []) := by
    rw [hbytes, ← List.append_nil (encode i), decode_encode_append]
  have hop : s.peek s.pc = i.opcode := by
    rw [encode_eq_opcode_cons] at hbytes
    exact (List.cons.inj hbytes).1
  obtain ⟨hpc, hoperand⟩ := (State.clear_cons ..).mp hclear
  have hpcFree : s.blocked [s.pc] = none := (s.blocked_eq_none _).mpr (by simpa using hpc)
  have hoperandFree : (s.afterRead s.pc).blocked (operandAddrs s.pc i.length) = none :=
    ((s.afterRead s.pc).blocked_eq_none _).mpr hoperand
  rw [State.peeks, hop] at hdecode
  simp [fetch, hpcFree, hop, hoperandFree, hdecode, State.afterReads]

/-- Where the boundary executes and the fetch gives an instruction, the step is that instruction. -/
theorem step_of_fetch {s s1 s2 : State} {i : Instr} (hb : boundary s = .execute s1)
    (hf : fetch s1 = .next (i, s2)) : step s = exec i s2 := by
  simp [step, hb, hf]

/-- R306 with no event: the sample is read and the instruction at PC comes next. -/
theorem boundary_quiet {s : State} (h : s.quiet) : boundary s = .execute s.sampled := by
  obtain ⟨hsignals, hpending⟩ := h
  simp [boundary, hsignals, hpending, Signals.quiet]

end Machine

/-- Settles O6: the fetch of an instruction's own bytes gives that instruction (`fetch_encode`), and a quiet
boundary takes no event (`boundary_quiet`). -/
theorem stepRunsDecodedInstruction : Obligations.StepRunsDecodedInstruction :=
  ⟨fun _ _ _ hb hclear hbytes => Machine.step_of_fetch hb (Machine.fetch_encode hclear hbytes),
    fun _ => Machine.boundary_quiet⟩

end Sys2Proof
end

section
/-! What an instruction may write. A `Footprint` names the registers and flags, `Keeps` says that all the others
stay as they are, with the environment of 10_state.md R36, and `exec_keeps` holds every instruction to the
footprint that R20 to R23 and R38 give it: shape by shape, over the result function of each mnemonic. -/

namespace Sys2Proof.Machine

/-- What may be written: the flags, A, X, Y, SP and I_prev. PC and memory are not tracked. -/
structure Footprint extends Spec.FlagSet where
  a : Bool := false
  x : Bool := false
  y : Bool := false
  sp : Bool := false
  iPrev : Bool := false

/-- From `s` to `t` nothing outside the footprint changes but PC and memory: the inputs, the pending NMI, the
platform and the choices stay, and the count of draws never falls. -/
structure Keeps (w : Footprint) (s t : State) : Prop where
  a : w.a = false → t.a = s.a
  x : w.x = false → t.x = s.x
  y : w.y = false → t.y = s.y
  sp : w.sp = false → t.sp = s.sp
  n : w.n = false → t.n = s.n
  v : w.v = false → t.v = s.v
  d : w.d = false → t.d = s.d
  i : w.i = false → t.i = s.i
  z : w.z = false → t.z = s.z
  c : w.c = false → t.c = s.c
  iPrev : w.iPrev = false → t.iPrev = s.iPrev
  inputs : t.inputs = s.inputs
  nmiPending : t.nmiPending = s.nmiPending
  platform : t.platform = s.platform
  choices : t.choices = s.choices
  draws : s.draws ≤ t.draws

theorem Keeps.refl {w : Footprint} (s : State) : Keeps w s s := by
  constructor <;> simp

theorem Keeps.trans {w : Footprint} {s t u : State} (hst : Keeps w s t) (htu : Keeps w t u) : Keeps w s u where
  a h := (htu.a h).trans (hst.a h)
  x h := (htu.x h).trans (hst.x h)
  y h := (htu.y h).trans (hst.y h)
  sp h := (htu.sp h).trans (hst.sp h)
  n h := (htu.n h).trans (hst.n h)
  v h := (htu.v h).trans (hst.v h)
  d h := (htu.d h).trans (hst.d h)
  i h := (htu.i h).trans (hst.i h)
  z h := (htu.z h).trans (hst.z h)
  c h := (htu.c h).trans (hst.c h)
  iPrev h := (htu.iPrev h).trans (hst.iPrev h)
  inputs := htu.inputs.trans hst.inputs
  nmiPending := htu.nmiPending.trans hst.nmiPending
  platform := htu.platform.trans hst.platform
  choices := htu.choices.trans hst.choices
  draws := hst.draws.trans htu.draws

/-! ## The operations on the state -/

/-- An instruction begins: I_prev takes the I before it (R36). `State.start` moves PC besides, which no
footprint tracks. -/
def State.begun (s : State) : State := { s with iPrev := s.i }

theorem State.start_keeps (w : Footprint) (s : State) (len : Addr) : Keeps w s.begun (s.start len) := by
  constructor <;> simp [State.begun]

theorem State.afterReads_keeps (w : Footprint) (s : State) (as : List Addr) : Keeps w s (s.afterReads as) := by
  rw [State.afterReads_eq]
  constructor <;> simp

theorem State.afterRead_keeps (w : Footprint) (s : State) (a : Addr) : Keeps w s (s.afterRead a) :=
  s.afterReads_keeps w [a]

theorem State.afterValue_keeps (w : Footprint) (s : State) (m : MemMode) : Keeps w s (s.afterValue m) :=
  (s.afterReads_keeps w _).trans (State.afterRead_keeps w _ _)

theorem State.write_keeps (w : Footprint) (s : State) (a : Addr) (b : Byte) : Keeps w s (s.write a b) := by
  constructor <;> simp

theorem State.setNZ_keeps (s : State) (r : Byte) : Keeps { n := true, z := true } s (s.setNZ r) := by
  constructor <;> simp

/-! ## The result functions -/

theorem State.adc_keeps (m : Byte) (s : State) :
    Keeps { n := true, v := true, z := true, c := true, a := true } s (State.adc m s) := by
  constructor <;> simp [State.adc_draws]

theorem State.sbc_keeps (m : Byte) (s : State) :
    Keeps { n := true, v := true, z := true, c := true, a := true } s (State.sbc m s) := by
  constructor <;> simp [State.sbc_draws]

theorem State.compare_keeps (reg : State → Byte) (m : Byte) (s : State) :
    Keeps { n := true, z := true, c := true } s (s.compare (reg s) m) := by
  constructor <;> simp

theorem State.bit_keeps (m : Byte) (s : State) :
    Keeps { n := true, v := true, z := true } s (State.bit m s) := by
  constructor <;> simp

theorem State.andA_keeps (m : Byte) (s : State) :
    Keeps { n := true, z := true, a := true } s (State.andA m s) := by
  constructor <;> simp

theorem State.eorA_keeps (m : Byte) (s : State) :
    Keeps { n := true, z := true, a := true } s (State.eorA m s) := by
  constructor <;> simp

theorem State.oraA_keeps (m : Byte) (s : State) :
    Keeps { n := true, z := true, a := true } s (State.oraA m s) := by
  constructor <;> simp

theorem State.lda_keeps (m : Byte) (s : State) :
    Keeps { n := true, z := true, a := true } s (State.lda m s) := by
  constructor <;> simp

theorem State.ldx_keeps (m : Byte) (s : State) :
    Keeps { n := true, z := true, x := true } s (State.ldx m s) := by
  constructor <;> simp

theorem State.ldy_keeps (m : Byte) (s : State) :
    Keeps { n := true, z := true, y := true } s (State.ldy m s) := by
  constructor <;> simp

theorem State.putShift_keeps (o : ShiftOut) (s : State) :
    Keeps { n := true, z := true, c := true } s (s.putShift o) := by
  constructor <;> simp

theorem State.shiftA_keeps (shift : Byte → Bool → ShiftOut) (s : State) :
    Keeps { n := true, z := true, c := true, a := true } s (State.shiftA shift s) := by
  constructor <;> simp

/-! ## The shapes of an instruction -/

section
variable {w : Footprint} {s t : State}

theorem implied_keeps {f : State → State} (h : implied f s = .next t) (hf : ∀ u, Keeps w u (f u)) :
    Keeps w s.begun t := by
  obtain ⟨-, rfl⟩ := implied_next.mp h
  exact (State.start_keeps ..).trans (hf _)

theorem immediate_keeps {v : Byte} {f : Byte → State → State} (h : immediate v f s = .next t)
    (hf : ∀ v u, Keeps w u (f v u)) : Keeps w s.begun t := by
  obtain rfl := immediate_next.mp h
  exact (State.start_keeps ..).trans (hf _ _)

theorem reading_keeps {m : MemMode} {f : Byte → State → State} (h : reading m f s = .next t)
    (hf : ∀ v u, Keeps w u (f v u)) : Keeps w s.begun t := by
  obtain ⟨-, rfl⟩ := reading_next.mp h
  exact (State.start_keeps ..).trans <| (State.afterValue_keeps ..).trans (hf _ _)

theorem storing_keeps {m : MemMode} {reg : State → Byte} (h : storing m reg s = .next t) :
    Keeps w s.begun t := by
  obtain ⟨-, rfl⟩ := storing_next.mp h
  exact (State.start_keeps ..).trans <| (State.afterReads_keeps ..).trans (State.write_keeps ..)

theorem modifying_keeps {m : MemMode} {result : State → Byte → Byte} {flags : Byte → State → State}
    (h : modifying m result flags s = .next t) (hf : ∀ v u, Keeps w u (flags v u)) :
    Keeps w s.begun t := by
  obtain ⟨-, rfl⟩ := modifying_next.mp h
  exact (State.start_keeps ..).trans <| (State.afterValue_keeps ..).trans <|
    (State.write_keeps ..).trans (hf _ _)

theorem branch_keeps {cond : State → Bool} {rel : Byte} (h : branch cond rel s = .next t) :
    Keeps w s.begun t := by
  obtain rfl := branch_next.mp h
  constructor <;> simp [State.begun]

end

/-! ## The jumps, the stack instructions, BRK and RTI -/

section
variable {s t : State}

theorem execJmpAbs_keeps {w : Footprint} {addr : Addr} (h : execJmpAbs addr s = .next t) :
    Keeps w s.begun t := by
  obtain rfl := Host.Outcome.next.inj h
  constructor <;> simp [State.begun]

theorem execJmpInd_keeps {w : Footprint} {addr : Addr} (h : execJmpInd addr s = .next t) :
    Keeps w s.begun t := by
  obtain ⟨-, rfl⟩ := State.touching_next.mp h
  constructor <;> simp [State.begun, State.afterPair, Nat.add_assoc]

theorem execJsr_keeps {addr : Addr} (h : execJsr addr s = .next t) : Keeps { sp := true } s.begun t := by
  obtain ⟨-, rfl⟩ := State.touching_next.mp h
  constructor <;> simp [State.begun, State.pushAddr]

theorem execRts_keeps (h : execRts s = .next t) : Keeps { sp := true } s.begun t := by
  obtain ⟨-, rfl⟩ := State.touching_next.mp h
  constructor <;> simp [State.begun, Nat.add_assoc]

theorem execPha_keeps (h : execPha s = .next t) : Keeps { sp := true } s.begun t := by
  obtain ⟨-, rfl⟩ := State.touching_next.mp h
  constructor <;> simp [State.begun]

theorem execPhp_keeps (h : execPhp s = .next t) : Keeps { sp := true } s.begun t := by
  obtain ⟨-, rfl⟩ := State.touching_next.mp h
  constructor <;> simp [State.begun]

theorem execPla_keeps (h : execPla s = .next t) :
    Keeps { n := true, z := true, a := true, sp := true } s.begun t := by
  obtain ⟨-, rfl⟩ := State.touching_next.mp h
  constructor <;> simp [State.begun]

theorem execPlp_keeps (h : execPlp s = .next t) :
    Keeps { n := true, v := true, d := true, i := true, z := true, c := true, sp := true } s.begun t := by
  obtain ⟨-, rfl⟩ := State.touching_next.mp h
  constructor <;> simp [State.begun]

theorem execRti_keeps (h : execRti s = .next t) :
    Keeps { n := true, v := true, d := true, i := true, z := true, c := true, sp := true, iPrev := true }
      s.begun t := by
  obtain ⟨-, rfl⟩ := returnFromInterrupt_next.mp h
  constructor <;> simp [State.begun, Nat.add_assoc]

/-- An entry writes SP, I and I_prev (R303, R317), and D and the other flags stay (R318). -/
theorem interrupt_keeps {vector : Addr} {b : Bool} (h : interrupt vector b s = .next t) :
    Keeps { i := true, sp := true, iPrev := true } s t := by
  obtain ⟨-, rfl⟩ := interrupt_next.mp h
  constructor <;> simp [State.stacked, State.pushAddr, State.after16, State.afterPair, Nat.add_assoc]

theorem execBrk_keeps (h : execBrk s = .next t) :
    Keeps { i := true, sp := true, iPrev := true } s.begun t := by
  obtain ⟨-, h⟩ := State.guarding_next.mp h
  exact Keeps.trans (by constructor <;> simp [State.begun]) (interrupt_keeps h)

end

/-! ## Every instruction -/

open Spec in
/-- What R20 to R23, R38 and R36 let `i` write. -/
def footprint (i : Instr) : Footprint where
  toFlagSet := flagsWritten i.mnemonic
  a := decide (i.mnemonic ∈ [.ADC, .SBC, .AND, .EOR, .ORA, .LDA, .PLA, .TXA, .TYA] ∨
    i.mode = .ACC ∧ i.mnemonic ∈ [.ASL, .LSR, .ROL, .ROR])
  x := decide (i.mnemonic ∈ [.LDX, .TAX, .TSX, .DEX, .INX])
  y := decide (i.mnemonic ∈ [.LDY, .TAY, .DEY, .INY])
  sp := decide (i.mnemonic ∈ [.TXS, .PHA, .PHP, .PLA, .PLP, .JSR, .RTS, .BRK, .RTI])
  iPrev := decide (i.mnemonic = .RTI ∨ i.mnemonic = .BRK)

/-- Every instruction writes inside its footprint, I_prev at first the I before it (R36). -/
theorem exec_keeps {i : Instr} {s t : State} (h : exec i s = .next t) :
    Keeps (footprint i) s.begun t := by
  unfold exec at h
  cases i with
  | adcImm => exact immediate_keeps h State.adc_keeps
  | adcZp | adcZpx | adcAbs | adcAbx | adcAby | adcIzx | adcIzy => exact reading_keeps h State.adc_keeps
  | sbcImm => exact immediate_keeps h State.sbc_keeps
  | sbcZp | sbcZpx | sbcAbs | sbcAbx | sbcAby | sbcIzx | sbcIzy => exact reading_keeps h State.sbc_keeps
  | cmpImm => exact immediate_keeps h (State.compare_keeps State.a)
  | cmpZp | cmpZpx | cmpAbs | cmpAbx | cmpAby | cmpIzx | cmpIzy =>
    exact reading_keeps h (State.compare_keeps State.a)
  | cpxImm => exact immediate_keeps h (State.compare_keeps State.x)
  | cpxZp | cpxAbs => exact reading_keeps h (State.compare_keeps State.x)
  | cpyImm => exact immediate_keeps h (State.compare_keeps State.y)
  | cpyZp | cpyAbs => exact reading_keeps h (State.compare_keeps State.y)
  | andImm => exact immediate_keeps h State.andA_keeps
  | andZp | andZpx | andAbs | andAbx | andAby | andIzx | andIzy => exact reading_keeps h State.andA_keeps
  | eorImm => exact immediate_keeps h State.eorA_keeps
  | eorZp | eorZpx | eorAbs | eorAbx | eorAby | eorIzx | eorIzy => exact reading_keeps h State.eorA_keeps
  | oraImm => exact immediate_keeps h State.oraA_keeps
  | oraZp | oraZpx | oraAbs | oraAbx | oraAby | oraIzx | oraIzy => exact reading_keeps h State.oraA_keeps
  | ldaImm => exact immediate_keeps h State.lda_keeps
  | ldaZp | ldaZpx | ldaAbs | ldaAbx | ldaAby | ldaIzx | ldaIzy => exact reading_keeps h State.lda_keeps
  | ldxImm => exact immediate_keeps h State.ldx_keeps
  | ldxZp | ldxZpy | ldxAbs | ldxAby => exact reading_keeps h State.ldx_keeps
  | ldyImm => exact immediate_keeps h State.ldy_keeps
  | ldyZp | ldyZpx | ldyAbs | ldyAbx => exact reading_keeps h State.ldy_keeps
  | bitZp | bitAbs => exact reading_keeps h State.bit_keeps
  | staZp | staZpx | staAbs | staAbx | staAby | staIzx | staIzy => exact storing_keeps h
  | stxZp | stxZpy | stxAbs | styZp | styZpx | styAbs => exact storing_keeps h
  | aslZp | aslZpx | aslAbs | aslAbx | lsrZp | lsrZpx | lsrAbs | lsrAbx | rolZp | rolZpx | rolAbs
  | rolAbx | rorZp | rorZpx | rorAbs | rorAbx =>
    exact modifying_keeps h fun _ _ => State.putShift_keeps ..
  | decZp | decZpx | decAbs | decAbx | incZp | incZpx | incAbs | incAbx =>
    exact modifying_keeps h fun _ _ => State.setNZ_keeps ..
  | aslAcc | lsrAcc | rolAcc | rorAcc => exact implied_keeps h (State.shiftA_keeps _)
  | clc | sec => exact implied_keeps (w := { c := true }) h fun _ => by constructor <;> simp
  | cld | sed => exact implied_keeps (w := { d := true }) h fun _ => by constructor <;> simp
  | cli | sei => exact implied_keeps (w := { i := true }) h fun _ => by constructor <;> simp
  | clv => exact implied_keeps (w := { v := true }) h fun _ => by constructor <;> simp
  | dex | inx | tax | tsx => exact implied_keeps h fun _ => State.ldx_keeps ..
  | dey | iny | tay => exact implied_keeps h fun _ => State.ldy_keeps ..
  | txa | tya => exact implied_keeps h fun _ => State.lda_keeps ..
  | txs => exact implied_keeps (w := { sp := true }) h fun _ => by constructor <;> simp
  | nop => exact implied_keeps h Keeps.refl
  | bcc | bcs | beq | bmi | bne | bpl | bvc | bvs => exact branch_keeps h
  | jmpAbs => exact execJmpAbs_keeps h
  | jmpInd => exact execJmpInd_keeps h
  | jsr => exact execJsr_keeps h
  | rts => exact execRts_keeps h
  | pha => exact execPha_keeps h
  | php => exact execPhp_keeps h
  | pla => exact execPla_keeps h
  | plp => exact execPlp_keeps h
  | rti => exact execRti_keeps h
  | brk => exact execBrk_keeps h

end Sys2Proof.Machine

namespace Sys2Proof
open Machine

/-- Settles O52: the flags of an instruction's footprint are its row of R38. -/
theorem flagsWrittenByTheTable : Obligations.FlagsWrittenByTheTable := by
  intro i s t h
  have hkeeps := exec_keeps h
  exact ⟨hkeeps.n, hkeeps.v, hkeeps.d, hkeeps.i, hkeeps.z, hkeeps.c⟩

/-- Settles O53: a register that changed is in the footprint, and so the mnemonic is in its list of R20 to
R23. -/
theorem registersWrittenOnlyBy : Obligations.RegistersWrittenOnlyBy := by
  intro i s t h
  have hkeeps := exec_keeps h
  exact ⟨not_imp_comm.mp fun hlist => hkeeps.a (decide_eq_false hlist),
    not_imp_comm.mp fun hlist => hkeeps.x (decide_eq_false hlist),
    not_imp_comm.mp fun hlist => hkeeps.y (decide_eq_false hlist),
    not_imp_comm.mp fun hlist => hkeeps.sp (decide_eq_false hlist)⟩

/-- Settles O55: no footprint takes in the environment. -/
theorem instructionsLeaveTheEnvironment : Obligations.InstructionsLeaveTheEnvironment := by
  intro i s t h
  have hkeeps := exec_keeps h
  exact ⟨hkeeps.inputs, hkeeps.nmiPending, hkeeps.platform, hkeeps.choices, hkeeps.draws⟩

end Sys2Proof
end

section
/-! I_prev, which the mask's latency rests on (10_state.md R36, 60_exceptions.md R317). -/

namespace Sys2Proof

theorem eq_rti_of_mnemonic {i : Instr} (h : i.mnemonic = .RTI) : i = .rti := by
  cases i with
  | rti => rfl
  | _ => cases h

theorem eq_brk_of_mnemonic {i : Instr} (h : i.mnemonic = .BRK) : i = .brk := by
  cases i with
  | brk => rfl
  | _ => cases h

namespace Machine

/-- R317: the return takes the new I into I_prev. -/
theorem returnFromInterrupt_iPrev {s t : State} (h : returnFromInterrupt s = .next t) : t.iPrev = t.i := by
  obtain ⟨-, rfl⟩ := returnFromInterrupt_next.mp h
  rfl

/-- R317: so does an entry. -/
theorem interrupt_iPrev {vector : Addr} {b : Bool} {s t : State} (h : interrupt vector b s = .next t) :
    t.iPrev = t.i := by
  obtain ⟨-, rfl⟩ := interrupt_next.mp h
  rfl

theorem exec_iPrev_of_ne {i : Instr} {s t : State} (hi : ¬ (i.mnemonic = .RTI ∨ i.mnemonic = .BRK))
    (h : exec i s = .next t) : t.iPrev = s.i :=
  (exec_keeps h).iPrev (decide_eq_false hi)

/-- R36: what I_prev is after each instruction. -/
theorem exec_iPrev {i : Instr} {s t : State} (h : exec i s = .next t) :
    t.iPrev = if i.mnemonic = .RTI ∨ i.mnemonic = .BRK then t.i else s.i := by
  split
  case isTrue hi =>
    obtain hrti | hbrk := hi
    · obtain rfl := eq_rti_of_mnemonic hrti
      exact returnFromInterrupt_iPrev h
    · obtain rfl := eq_brk_of_mnemonic hbrk
      exact interrupt_iPrev (State.guarding_next.mp h).2
  case isFalse hi => exact exec_iPrev_of_ne hi h

/-- R196: SEI sets I. -/
theorem exec_sei_i {s t : State} (h : exec .sei s = .next t) : t.i = true := by
  have hsei : execSei s = .next t := h
  obtain ⟨-, rfl⟩ := implied_next.mp hsei
  rfl

end Machine

open Machine

/-- Settles O44: SEI leaves the old I in I_prev, which still allows the IRQ; the NOP after it writes no I and
leaves the new one there, which does not. -/
theorem maskLatency : Obligations.MaskLatency := by
  refine ⟨fun _ _ _ => exec_iPrev, fun s t u hs hsei hnop => ?_⟩
  have hti : t.i = true := exec_sei_i hsei
  have htPrev : t.iPrev = false := (exec_iPrev_of_ne (by decide) hsei).trans hs
  have hui : u.i = true := ((exec_keeps hnop).i rfl).trans hti
  have huPrev : u.iPrev = true := (exec_iPrev_of_ne (by decide) hnop).trans hti
  simp [State.irqAllowed, hti, htPrev, hui, huPrev]

end Sys2Proof
end

section
/-! The status byte bit by bit (10_state.md R32), and loading it back (R33). -/

namespace Sys2Proof.Machine

@[simp] theorem statusBit_getElem (b : Bool) (k j : Nat) (h : j < 8) :
    (statusBit b k)[j] = (b && decide (j = k)) := by
  cases b with
  | false => simp [statusBit]
  | true =>
    have hbit : j = k ↔ ¬ j < k ∧ j - k = 0 := by omega
    simp only [statusBit, BitVec.getElem_shiftLeft, hbit, Bool.decide_and, decide_not]
    simp

section
variable (s : State) (b : Bool)
@[simp] theorem State.pByte_bit0 : (s.pByte b)[0] = s.c := by simp [State.pByte]
@[simp] theorem State.pByte_bit1 : (s.pByte b)[1] = s.z := by simp [State.pByte]
@[simp] theorem State.pByte_bit2 : (s.pByte b)[2] = s.i := by simp [State.pByte]
@[simp] theorem State.pByte_bit3 : (s.pByte b)[3] = s.d := by simp [State.pByte]
@[simp] theorem State.pByte_bit6 : (s.pByte b)[6] = s.v := by simp [State.pByte]
@[simp] theorem State.pByte_bit7 : (s.pByte b)[7] = s.n := by simp [State.pByte]
end

/-- R32: each flag with the weight of its bit, and bit 5 set. -/
theorem State.pByte_toNat (s : State) (b : Bool) :
    (s.pByte b).toNat = 128 * s.n.toNat + 64 * s.v.toNat + 32 + 16 * b.toNat + 8 * s.d.toNat +
      4 * s.i.toNat + 2 * s.z.toNat + s.c.toNat := by
  unfold State.pByte
  generalize s.n = n, s.v = v, s.d = d, s.i = i, s.z = z, s.c = c
  revert n v b d i z c
  decide

/-- R33: the six flags come back. -/
theorem State.setP_pByte (s : State) (b : Bool) : s.setP (s.pByte b) = s := by
  simp [State.setP]

/-- R33: bits 5 and 4 are not read, so setting both changes nothing. -/
theorem State.setP_or (s : State) (p : Byte) : s.setP (p ||| 0x30#8) = s.setP p := by
  simp [State.setP]

/-- Nor does clearing both. -/
theorem State.setP_and (s : State) (p : Byte) : s.setP (p &&& 0xCF#8) = s.setP p := by
  simp [State.setP]

end Sys2Proof.Machine

namespace Sys2Proof
open Machine

/-- Settles O37: the weights of the bits, the round trip, and the two bits that `setP` does not read. -/
theorem statusByteLayout : Obligations.StatusByteLayout :=
  fun s b => ⟨s.pByte_toNat b, s.setP_pByte b, fun p => ⟨s.setP_or p, s.setP_and p⟩⟩

end Sys2Proof
end

section
/-! The machine right after reset (10_state.md R37). -/

namespace Sys2Proof.Machine

/-- R57: the default platform has ram at every address. -/
theorem State.reset_kindAt (a : Addr) : State.reset.kindAt a = .ram := rfl

/-- Memory lists nothing, so any two bytes read as &0000 (assumption log 1). -/
theorem State.reset_peek16 (a : Addr) : State.reset.peek16 a = 0x0000#16 := by
  have hpeek (k : Addr) : State.reset.peek k = blankByte := rfl
  rw [State.peek16, State.peekPair, State.afterRead_mapped _ _ (by simp [State.reset_kindAt]), hpeek, hpeek]
  rfl

end Sys2Proof.Machine

namespace Sys2Proof
open Machine

/-- Settles O46: R37 on the reset state's own fields, PC being what the empty memory holds at the vector. -/
theorem resetState : Obligations.ResetState :=
  ⟨rfl, rfl, rfl, (State.reset_peek16 _).symm, State.reset_kindAt⟩

end Sys2Proof
end

section
/-! What a step touches, and where it writes memory (20_memory.md R57, R58, R66). `StoresOnlyAt` says that
memory changes at most at given ram addresses, `Accesses` that besides a device at given addresses is the only
thing that stops a result; `exec_accesses` holds every instruction to the lists `Spec.touched` and `writeSites`,
shape by shape, and the entries and the reset sequence have theirs. -/

namespace Sys2Proof.Machine
open Spec

/-! ## Where memory changes -/

/-- From `s` to `t` memory changes at the ram addresses of `ws` alone and its canonical form is kept; so is
what stands at each address. -/
structure StoresOnlyAt (ws : List Addr) (s t : State) : Prop where
  inv : s.Inv → t.Inv
  platform : t.platform = s.platform
  read : ∀ a : Addr, (s.kindAt a = .ram → a ∉ ws) → Memory.read t.mem a.toNat = Memory.read s.mem a.toNat

theorem State.kindAt_congr {s t : State} (h : t.platform = s.platform) (a : Addr) :
    t.kindAt a = s.kindAt a := by
  simp only [State.kindAt, h]

variable {ws : List Addr} {s t u : State}

theorem StoresOnlyAt.of_mem_eq (hmem : t.mem = s.mem) (hplatform : t.platform = s.platform) :
    StoresOnlyAt ws s t where
  inv := by simp only [State.Inv, hmem, imp_self]
  platform := hplatform
  read _ _ := by rw [hmem]

theorem StoresOnlyAt.trans (hst : StoresOnlyAt ws s t) (htu : StoresOnlyAt ws t u) : StoresOnlyAt ws s u where
  inv := htu.inv ∘ hst.inv
  platform := htu.platform.trans hst.platform
  read a ha := (htu.read a (by rwa [State.kindAt_congr hst.platform])).trans (hst.read a ha)

theorem StoresOnlyAt.congr_left (htu : StoresOnlyAt ws t u) (hmem : t.mem = s.mem)
    (hplatform : t.platform = s.platform) : StoresOnlyAt ws s u :=
  (StoresOnlyAt.of_mem_eq hmem hplatform).trans htu

/-- R57: the store of R58 reaches ram alone. -/
theorem State.write_stores {a : Addr} (ha : a ∈ ws) (b : Byte) : StoresOnlyAt ws s (s.write a b) where
  inv := s.write_wf a b
  platform := rfl
  read k hk := by
    have hno : ¬ (k.toNat = a.toNat ∧ s.kindAt a = .ram) := by
      rintro ⟨heq, hram⟩
      obtain rfl := BitVec.eq_of_toNat_eq heq
      exact hk hram ha
    rw [State.write_read, if_neg hno]

theorem State.push_stores (ha : stackAddr s.sp ∈ ws) (b : Byte) : StoresOnlyAt ws s (s.push b) :=
  (State.write_stores ha b).trans (.of_mem_eq rfl rfl)

theorem State.start_stores (s : State) (len : Addr) : StoresOnlyAt ws s (s.start len) := .of_mem_eq rfl rfl

theorem State.afterReads_stores (s : State) (as : List Addr) : StoresOnlyAt ws s (s.afterReads as) := by
  rw [State.afterReads_eq]
  exact .of_mem_eq rfl rfl

theorem State.afterValue_stores (s : State) (m : MemMode) : StoresOnlyAt ws s (s.afterValue m) :=
  (s.afterReads_stores _).trans (.of_mem_eq rfl rfl)

/-- The free locations, by how far below SP they stand. -/
theorem mem_freeSlots {a : Addr} {k : Nat} :
    a ∈ freeSlots s k ↔ ∃ j < k, stackAddr (s.sp - BitVec.ofNat 8 j) = a := by
  simp [freeSlots]

theorem free_mem_freeSlots (s : State) (k : Nat) : stackAddr s.sp ∈ freeSlots s (k + 1) :=
  mem_freeSlots.mpr ⟨0, by simp⟩

/-- R67: a return address goes to the two free locations. -/
theorem State.pushAddr_stores (h0 : stackAddr s.sp ∈ ws) (h1 : stackAddr (s.sp - 1#8) ∈ ws) (a : Addr) :
    StoresOnlyAt ws s (s.pushAddr a) :=
  (State.push_stores h0 _).trans (State.push_stores h1 _)

/-- R303: the frame of an entry goes to the three free locations. -/
theorem State.stacked_stores (s : State) (b : Bool) : StoresOnlyAt (freeSlots s 3) s (s.stacked b) := by
  have hreturn : StoresOnlyAt (freeSlots s 3) s (s.pushAddr s.pc) :=
    State.pushAddr_stores (free_mem_freeSlots s 2) (mem_freeSlots.mpr ⟨1, by simp⟩) _
  have hslot : stackAddr (s.pushAddr s.pc).sp ∈ freeSlots s 3 :=
    mem_freeSlots.mpr ⟨2, by simp [State.pushAddr, BitVec.sub_sub]⟩
  have hstatus := State.push_stores hslot ((s.pushAddr s.pc).pByte b)
  exact hreturn.trans (hstatus.trans (.of_mem_eq rfl rfl))

/-! ## What a result touches -/

/-- From `s`, the result is a refusal at the first device among `as`; with none there it is a next state, and
memory is written at `ws` alone. -/
def Accesses (s : State) (as ws : List Addr) (r : Result) : Prop :=
  ∃ t, r = s.touching as t ∧ StoresOnlyAt ws s t

variable {as : List Addr} {r : Result}

theorem State.touching_congr (h : t.platform = s.platform) (as : List Addr) (u : State) :
    t.touching as u = s.touching as u := by
  simp only [State.touching, State.guarding, State.blocked_congr h]

theorem Accesses.of_touching (hplatform : t.platform = s.platform) (hstores : StoresOnlyAt ws s u) :
    Accesses s as ws (t.touching as u) :=
  ⟨u, State.touching_congr hplatform as u, hstores⟩

theorem Accesses.of_next (hstores : StoresOnlyAt ws s t) : Accesses s [] ws (.next t) := ⟨t, rfl, hstores⟩

/-- A further guard adds its addresses in front. -/
theorem Accesses.guarding (bs : List Addr) (h : Accesses s as ws r) :
    Accesses s (bs ++ as) ws (s.guarding bs r) := by
  obtain ⟨t, rfl, hstores⟩ := h
  refine ⟨t, ?_, hstores⟩
  simp only [State.touching, State.guarding, State.blocked_append]
  cases s.blocked bs <;> rfl

theorem Accesses.completes_iff (h : Accesses s as ws r) : (∃ t, r = .next t) ↔ s.clear as := by
  obtain ⟨t, rfl, -⟩ := h
  simp [State.touching_next]

theorem Accesses.refused (h : Accesses s as ws r) (hdevice : ¬ s.clear as) :
    ∃ a ∈ as, s.kindAt a = .device ∧ r = .refused (.deviceAccess a) := by
  obtain ⟨t, rfl, -⟩ := h
  exact State.touching_device hdevice t

theorem Accesses.stores (h : Accesses s as ws r) (hnext : r = .next t) : StoresOnlyAt ws s t := by
  obtain ⟨u, rfl, hstores⟩ := h
  obtain ⟨-, rfl⟩ := State.touching_next.mp hnext
  exact hstores

/-! ## The shapes of an instruction -/

theorem implied_accesses {f : State → State} (hf : ∀ u, StoresOnlyAt ws u (f u)) :
    Accesses s [s.pc + 1#16] ws (implied f s) :=
  .of_touching rfl ((s.start_stores _).trans (hf _))

theorem immediate_accesses {v : Byte} {f : Byte → State → State} (hf : ∀ v u, StoresOnlyAt ws u (f v u)) :
    Accesses s [] ws (immediate v f s) :=
  .of_next ((s.start_stores _).trans (hf _ _))

theorem branch_accesses {cond : State → Bool} {rel : Byte} : Accesses s [] ws (branch cond rel s) :=
  .of_next (.of_mem_eq rfl rfl)

theorem reading_accesses {m : MemMode} {f : Byte → State → State} (hf : ∀ v u, StoresOnlyAt ws u (f v u)) :
    Accesses s (s.touches m) ws (reading m f s) := by
  simp only [reading, State.start_touches]
  exact .of_touching rfl ((s.start_stores _).trans ((State.afterValue_stores _ _).trans (hf _ _)))

theorem storing_accesses {m : MemMode} {reg : State → Byte} :
    Accesses s (s.touches m) [s.ea m] (storing m reg s) := by
  simp only [storing, State.start_touches, State.start_ea]
  exact .of_touching rfl <| (s.start_stores _).trans <| (State.afterReads_stores _ _).trans <|
    State.write_stores (List.mem_singleton_self _) _

theorem modifying_accesses {m : MemMode} {result : State → Byte → Byte} {flags : Byte → State → State}
    (hf : ∀ v u, StoresOnlyAt [s.ea m] u (flags v u)) :
    Accesses s (s.touches m) [s.ea m] (modifying m result flags s) := by
  simp only [modifying, State.start_touches, State.start_ea]
  exact .of_touching rfl <| (s.start_stores _).trans <| (State.afterValue_stores _ _).trans <|
    (State.write_stores (List.mem_singleton_self _) _).trans (hf _ _)

/-! ## The entries and the reset sequence -/

/-- R303: an entry from `t` touches its three stack locations and its vector, and writes at the former. All that
`t` shares with `s` are SP, memory and the platform, so that it may be `s` at another PC. -/
theorem interrupt_accesses {vector : Addr} {b : Bool} (hsp : t.sp = s.sp) (hmem : t.mem = s.mem)
    (hplatform : t.platform = s.platform) :
    Accesses s (entrySpace s vector) (freeSlots s 3) (interrupt vector b t) := by
  have hslots : freeSlots s 3 = freeSlots t 3 := by simp only [freeSlots, hsp]
  rw [entrySpace, hslots]
  have hstores := (t.stacked_stores b).congr_left hmem hplatform
  exact .of_touching hplatform (hstores.trans (.of_mem_eq rfl rfl))

/-- R340: the reset sequence touches the same, and writes nowhere. -/
theorem resetSequence_accesses (s : State) : Accesses s (entrySpace s resetVector) [] (resetSequence s) :=
  .of_touching rfl (.of_mem_eq rfl rfl)

theorem takeNmi_accesses (s : State) : Accesses s (entrySpace s nmiVector) (freeSlots s 3) (takeNmi s) :=
  interrupt_accesses rfl rfl rfl

theorem takeIrq_accesses (s : State) : Accesses s (entrySpace s irqVector) (freeSlots s 3) (takeIrq s) :=
  interrupt_accesses rfl rfl rfl

/-- R306 (c), R66: a captured BRK touches the byte after it besides. -/
theorem captureBrk_accesses (s : State) :
    Accesses s ((s.pc + 1#16) :: entrySpace s nmiVector) (freeSlots s 3) (captureBrk s) :=
  .guarding [s.pc + 1#16] (interrupt_accesses rfl rfl rfl)

theorem execBrk_accesses (s : State) :
    Accesses s ((s.pc + 1#16) :: entrySpace s irqVector) (freeSlots s 3) (execBrk s) :=
  .guarding [s.pc + 1#16] (interrupt_accesses rfl rfl rfl)

/-- R181: RTI touches the byte after it, and the stack from the free location up. -/
theorem execRti_accesses (s : State) :
    Accesses s ((s.pc + 1#16) :: stackAddr s.sp :: stackTop s 3) ws (execRti s) := by
  rw [execRti, returnFromInterrupt]
  exact .of_touching rfl (.of_mem_eq (by simp) (by simp))

/-! ## Every instruction -/

/-- The effective address, where the mode has one. -/
def operandSites (i : Instr) (s : State) : List Addr :=
  match i.operand with
  | .mem m => [s.ea m]
  | _ => []

theorem mem_operandSites {i : Instr} {a : Addr} (h : a ∈ operandSites i s) :
    ∃ m, i.operand = .mem m ∧ a = s.ea m := by
  unfold operandSites at h
  split at h
  case h_1 m hm => exact ⟨m, hm, List.mem_singleton.mp h⟩
  case h_2 => exact nomatch h

/-- The addresses at which `i` may write memory: the effective address of a store or a read-modify-write, and
the free stack locations of the pushing instructions. -/
def writeSites (i : Instr) (s : State) : List Addr :=
  match i.mnemonic with
  | .STA | .STX | .STY | .ASL | .LSR | .ROL | .ROR | .DEC | .INC => operandSites i s
  | .PHA | .PHP => freeSlots s 1
  | .JSR => freeSlots s 2
  | .BRK => freeSlots s 3
  | _ => []

theorem State.adc_stores (m : Byte) (s : State) : StoresOnlyAt ws s (State.adc m s) :=
  .of_mem_eq (State.adc_mem m s) (State.adc_platform m s)

theorem State.sbc_stores (m : Byte) (s : State) : StoresOnlyAt ws s (State.sbc m s) :=
  .of_mem_eq (State.sbc_mem m s) (State.sbc_platform m s)

theorem execJsr_accesses (addr : Addr) (s : State) :
    Accesses s (freeSlots s 2) (freeSlots s 2) (execJsr addr s) := by
  have hpush : StoresOnlyAt (freeSlots s 2) (s.start 3#16) ((s.start 3#16).pushAddr (s.pc + 2#16)) :=
    State.pushAddr_stores (free_mem_freeSlots (s.start 3#16) 1) (mem_freeSlots.mpr ⟨1, by simp⟩) _
  exact .of_touching rfl ((s.start_stores _).trans (hpush.trans (.of_mem_eq rfl rfl)))

/-- Every instruction touches `Spec.touched` and writes memory at its sites alone. -/
theorem exec_accesses (i : Instr) (s : State) : Accesses s (touched i s) (writeSites i s) (exec i s) := by
  unfold exec
  cases i with
  | adcImm => exact immediate_accesses State.adc_stores
  | sbcImm => exact immediate_accesses State.sbc_stores
  | andImm | eorImm | oraImm | cmpImm | cpxImm | cpyImm | ldaImm | ldxImm | ldyImm =>
    exact immediate_accesses fun _ _ => .of_mem_eq rfl rfl
  | adcZp | adcZpx | adcAbs | adcAbx | adcAby | adcIzx | adcIzy => exact reading_accesses State.adc_stores
  | sbcZp | sbcZpx | sbcAbs | sbcAbx | sbcAby | sbcIzx | sbcIzy => exact reading_accesses State.sbc_stores
  | andZp | andZpx | andAbs | andAbx | andAby | andIzx | andIzy
  | eorZp | eorZpx | eorAbs | eorAbx | eorAby | eorIzx | eorIzy
  | oraZp | oraZpx | oraAbs | oraAbx | oraAby | oraIzx | oraIzy
  | cmpZp | cmpZpx | cmpAbs | cmpAbx | cmpAby | cmpIzx | cmpIzy
  | cpxZp | cpxAbs | cpyZp | cpyAbs | bitZp | bitAbs
  | ldaZp | ldaZpx | ldaAbs | ldaAbx | ldaAby | ldaIzx | ldaIzy
  | ldxZp | ldxZpy | ldxAbs | ldxAby | ldyZp | ldyZpx | ldyAbs | ldyAbx =>
    exact reading_accesses fun _ _ => .of_mem_eq rfl rfl
  | staZp | staZpx | staAbs | staAbx | staAby | staIzx | staIzy
  | stxZp | stxZpy | stxAbs | styZp | styZpx | styAbs => exact storing_accesses
  | aslZp | aslZpx | aslAbs | aslAbx | lsrZp | lsrZpx | lsrAbs | lsrAbx
  | rolZp | rolZpx | rolAbs | rolAbx | rorZp | rorZpx | rorAbs | rorAbx
  | decZp | decZpx | decAbs | decAbx | incZp | incZpx | incAbs | incAbx =>
    exact modifying_accesses fun _ _ => .of_mem_eq rfl rfl
  | aslAcc | lsrAcc | rolAcc | rorAcc | clc | sec | cld | sed | cli | sei | clv | dex | inx | dey | iny
  | tax | tay | tsx | txa | txs | tya | nop => exact implied_accesses fun _ => .of_mem_eq rfl rfl
  | bcc | bcs | beq | bmi | bne | bpl | bvc | bvs => exact branch_accesses
  | jmpAbs => exact .of_next (.of_mem_eq rfl rfl)
  | jmpInd | rts | pla | plp => exact .of_touching rfl (.of_mem_eq rfl rfl)
  | rti => exact execRti_accesses s
  | pha | php =>
    exact .of_touching rfl <| (s.start_stores _).trans <|
      State.push_stores (free_mem_freeSlots (s.start 1#16) 0) _
  | jsr addr => exact execJsr_accesses addr s
  | brk => exact execBrk_accesses s

end Sys2Proof.Machine
end

section
/-! What a whole step writes (20_memory.md R50, R57, 93_implementation_defined.md U6), and what it refuses. -/

namespace Sys2Proof.Machine
open Spec

/-! ## Memory over a step -/

/-- A boundary that executes has written nothing. -/
theorem boundary_execute_stores {ws : List Addr} {s s1 : State} (h : boundary s = .execute s1) :
    StoresOnlyAt ws s s1 := by
  obtain rfl | rfl | rfl := boundary_execute h <;> exact .of_mem_eq rfl rfl

/-- An event taken writes at the three free stack locations at most. -/
theorem boundary_taken_stores {s t : State} (h : boundary s = .taken (.next t)) :
    ∃ ws, StoresOnlyAt ws s t := by
  obtain ⟨k, n, hreset | hnmi | hirq | hcapture⟩ := boundary_taken h
  · exact ⟨_, ((resetSequence_accesses _).stores hreset.symm).congr_left rfl rfl⟩
  · exact ⟨_, ((takeNmi_accesses _).stores hnmi.symm).congr_left rfl rfl⟩
  · exact ⟨_, ((takeIrq_accesses _).stores hirq.symm).congr_left rfl rfl⟩
  · exact ⟨_, ((captureBrk_accesses _).stores hcapture.symm).congr_left rfl rfl⟩

/-- Every step writes memory through the map alone: an event, or a fetch, which writes nothing, and an
instruction. -/
theorem step_stores {s t : State} (h : step s = .next t) : ∃ ws, StoresOnlyAt ws s t := by
  obtain htaken | ⟨s1, i, s2, hexecute, hfetch, hexec⟩ := step_next.mp h
  · exact boundary_taken_stores htaken
  · obtain ⟨as, -, rfl, -⟩ := fetch_next hfetch
    exact ⟨_, (boundary_execute_stores hexecute).trans <| (s1.afterReads_stores _).trans <|
      (exec_accesses i _).stores hexec⟩

/-- Where an instruction may write, mnemonic by mnemonic. -/
theorem mem_writeSites {i : Instr} {s : State} {a : Addr} (h : a ∈ writeSites i s) :
    (i.mnemonic ∈ [.STA, .STX, .STY, .ASL, .LSR, .ROL, .ROR, .DEC, .INC] ∧
      ∃ m, i.operand = .mem m ∧ a = s.ea m) ∨
    (i.mnemonic ∈ [.PHA, .PHP] ∧ a ∈ freeSlots s 1) ∨
    (i.mnemonic = .JSR ∧ a ∈ freeSlots s 2) ∨
    (i.mnemonic = .BRK ∧ a ∈ freeSlots s 3) := by
  unfold writeSites at h
  split at h
  case h_10 hmn | h_11 hmn => exact .inr (.inl ⟨by simp [hmn], h⟩)
  case h_12 hmn => exact .inr (.inr (.inl ⟨hmn, h⟩))
  case h_13 hmn => exact .inr (.inr (.inr ⟨hmn, h⟩))
  case h_14 => exact nomatch h
  all_goals exact .inl ⟨by simp [*], mem_operandSites h⟩

/-! ## The boundary's events -/

theorem step_of_taken {s : State} {r : Result} (h : boundary s = .taken r) : step s = r := by
  simp [step, h]

theorem step_of_execute {s s1 : State} (h : boundary s = .execute s1) : step s = runs s1 := by
  simp only [step, h, runs]
  cases fetch s1 <;> rfl

/-- R306: reset comes first. -/
theorem boundary_reset {s : State} (h : s.signals.reset = true) :
    boundary s = .taken (resetSequence s.sampled) := by
  simp [boundary, h]

/-- R305: an NMI pending from before is taken. -/
theorem boundary_nmiPending {s : State} (hreset : s.signals.reset = false) (hpending : s.nmiPending = true) :
    boundary s = .taken (takeNmi s.sampled) := by
  simp [boundary, hreset, hpending]

theorem boundary_nmiEdge {s : State} (hreset : s.signals.reset = false) (hpending : s.nmiPending = false)
    (hnmi : s.signals.nmi = true) : boundary s = nmiEdge s.sampled := by
  simp [boundary, hreset, hpending, hnmi]

/-- R304: an IRQ alone, which the mask allows, is a request. -/
theorem boundary_irq {s : State} (hsignals : s.signals = { reset := false, nmi := false, irq := true })
    (hpending : s.nmiPending = false) (hmask : s.i = false ∨ s.iPrev = false) :
    boundary s = irqRequest s.sampled := by
  have hallowed : s.irqAllowed = true := by
    obtain h | h := hmask <;> simp [State.irqAllowed, h]
  simp [boundary, hsignals, hpending, hallowed]

/-- R305: an edge is taken where the op-code at PC is not BRK's, or cannot be looked at. -/
theorem nmiEdge_of_not_brk {s : State} (h : s.kindAt s.pc = .device ∨ s.peek s.pc ≠ 0x00#8) :
    nmiEdge s = .taken (takeNmi s) := by
  have hbrk : s.atBrk = false := by
    obtain h | h := h <;> simp [State.atBrk, h]
  simp [nmiEdge, hbrk]

/-- R306: the three outcomes of an edge before a BRK. -/
theorem nmiEdge_of_brk {s : State} (hpc : s.kindAt s.pc ≠ .device) (hop : s.peek s.pc = 0x00#8) :
    nmiEdge s = .taken (takeNmi { s with choices := s.choices + 1 }) ∨
      nmiEdge s = .execute { s with choices := s.choices + 1, nmiPending := true } ∨
      nmiEdge s = .taken (captureBrk { s with choices := s.choices + 1 }) := by
  have hbrk : s.atBrk = true := by simp [State.atBrk, hpc, hop]
  simp only [nmiEdge, hbrk, if_true]
  cases Config.brkNmi s.choices <;> simp

/-- R304: the two outcomes of a request. -/
theorem irqRequest_cases (s : State) :
    irqRequest s = .taken (takeIrq { s with choices := s.choices + 1 }) ∨
      irqRequest s = .execute { s with choices := s.choices + 1 } := by
  cases h : Config.irqTaken s.choices <;> simp [irqRequest, h]

end Sys2Proof.Machine

namespace Sys2Proof
open Machine

/-- Settles O47: the memory of the reset state lists nothing. -/
theorem invariantAtReset : Obligations.InvariantAtReset := State.reset_mem_wf

/-- Settles O48: memory changes by stores through the map alone, and each keeps the canonical form. -/
theorem stepKeepsInvariant : Obligations.StepKeepsInvariant := by
  intro s t hinv h
  obtain ⟨_, hstores⟩ := step_stores h
  exact hstores.inv hinv

/-- Settles O49: a store through the map reaches ram alone. -/
theorem onlyRamChanges : Obligations.OnlyRamChanges := by
  intro s t h
  obtain ⟨_, hstores⟩ := step_stores h
  exact ⟨hstores.platform, fun a hkind => hstores.read a fun hram => absurd hram hkind⟩

/-- Settles O50: an instruction's one guard is over what it touches. -/
theorem everyInstructionCompletes : Obligations.EveryInstructionCompletes :=
  ⟨fun i s => (exec_accesses i s).completes_iff,
    fun i s hfree => (exec_accesses i s).completes_iff.mpr (hfree.clear _)⟩

/-- Settles O54: a byte that changed stood at one of the instruction's sites. -/
theorem memoryWrittenOnlyBy : Obligations.MemoryWrittenOnlyBy := by
  intro i s t a h hchanged
  by_contra hnone
  exact hchanged <| ((exec_accesses i s).stores h).read a fun _ hsite => hnone (mem_writeSites hsite)

/-- Settles O56: the same guard names the device. -/
theorem deviceAccessIsRefused : Obligations.DeviceAccessIsRefused :=
  fun i s hdevice => (exec_accesses i s).refused hdevice

/-- Settles O57: each event's guard is over its entry space; before a BRK and at an IRQ the choices decide
which event, if any, is taken. -/
theorem entryAtDeviceIsRefused : Obligations.EntryAtDeviceIsRefused := by
  refine ⟨fun s vector b _ hdevice => (interrupt_accesses rfl rfl rfl).refused hdevice,
    fun s hreset hdevice => ?_, fun s hreset hdevice hnmi => ?_,
    fun s hreset hpending hnmi hpc hop hdevice => ?_, fun s hsignals hpending hmask hdevice => ?_⟩
  · rw [step_of_taken (boundary_reset hreset)]
    exact (resetSequence_accesses s.sampled).refused hdevice
  · have htaken : boundary s = .taken (takeNmi s.sampled) := by
      cases hpending : s.nmiPending with
      | true => exact boundary_nmiPending hreset hpending
      | false =>
        obtain ⟨hedge, hnot⟩ := hnmi.resolve_left (by simp [hpending])
        exact (boundary_nmiEdge hreset hpending hedge).trans (nmiEdge_of_not_brk hnot)
    rw [step_of_taken htaken]
    exact (takeNmi_accesses s.sampled).refused hdevice
  · have hedge := boundary_nmiEdge hreset hpending hnmi
    obtain htaken | hexecute | hcaptured := nmiEdge_of_brk (s := s.sampled) hpc hop
    · rw [step_of_taken (hedge.trans htaken)]
      obtain ⟨a, ha, hkind, hrefused⟩ :=
        (takeNmi_accesses { s.sampled with choices := s.choices + 1 }).refused hdevice
      exact .inl ⟨a, .tail _ ha, hkind, hrefused⟩
    · exact .inr (step_of_execute (hedge.trans hexecute))
    · rw [step_of_taken (hedge.trans hcaptured)]
      exact .inl <| (captureBrk_accesses { s.sampled with choices := s.choices + 1 }).refused fun hclear =>
        hdevice ((State.clear_cons ..).mp hclear).2
  · have hirq := boundary_irq hsignals hpending hmask
    obtain htaken | hexecute := irqRequest_cases s.sampled
    · rw [step_of_taken (hirq.trans htaken)]
      exact .inl ((takeIrq_accesses { s.sampled with choices := s.choices + 1 }).refused hdevice)
    · exact .inr (step_of_execute (hirq.trans hexecute))

end Sys2Proof
end

section
/-! Reads (20_memory.md R57, R58): of ram and rom, of unmapped addresses, and after a store (R60, R63). -/

namespace Sys2Proof.Machine
open Spec

/-! ## Reads of ram and rom -/

theorem mapped_of_allStored {s : State} {a : Addr} {as : List Addr} (h : AllStored s as) (ha : a ∈ as) :
    s.kindAt a ≠ .unmapped := by
  obtain hram | hrom := h a ha
  · simp [hram]
  · simp [hrom]

/-- R58: reads of stored bytes, in any sequence, give them and change nothing. -/
theorem State.reads_stored {s : State} {as : List Addr} (h : AllStored s as) :
    s.peeks as = as.map (fun a => Memory.read s.mem a.toNat) ∧ s.afterReads as = s := by
  induction as with
  | nil => exact ⟨rfl, rfl⟩
  | cons a as ih =>
    have ha : s.kindAt a ≠ .unmapped := mapped_of_allStored h (.head _)
    obtain ⟨hpeeks, hafter⟩ := ih fun b hb => h b (.tail _ hb)
    rw [State.peeks, State.afterReads, s.afterRead_mapped a ha, s.peek_mapped a ha, hpeeks, hafter]
    exact ⟨rfl, rfl⟩

@[simp] theorem State.afterPointer_mem (s : State) (m : MemMode) : (s.afterPointer m).mem = s.mem := by
  rw [State.afterPointer, State.afterReads_eq]

@[simp] theorem State.afterPointer_kindAt (s : State) (m : MemMode) (a : Addr) :
    (s.afterPointer m).kindAt a = s.kindAt a := by
  rw [State.afterPointer, State.afterReads_eq]
  rfl

/-- The operand at a ram or rom address is the stored byte, whatever the pointer's bytes draw. -/
theorem State.value_mapped {s : State} {m : MemMode} (h : s.kindAt (s.ea m) ≠ .unmapped) :
    s.value m = Memory.read s.mem (s.ea m).toNat := by
  rw [State.value, State.peek_mapped _ _ (by simpa using h), State.afterPointer_mem]

/-! ## Reads of unmapped addresses -/

/-- U5: the operand at an unmapped address is the draw that the pointer's reads leave next. -/
theorem State.value_unmapped {s : State} {m : MemMode} (h : s.kindAt (s.ea m) = .unmapped) :
    s.value m = Config.freeByte (s.afterPointer m).draws :=
  State.peek_unmapped _ _ (by simpa using h)

theorem State.drawsAt_unmapped {s : State} {a : Addr} (h : s.kindAt a = .unmapped) : s.drawsAt a = 1 := by
  simp [State.drawsAt, h]

/-- U5: that draw is used up. -/
theorem State.afterValue_draws_unmapped {s : State} {m : MemMode} (h : s.kindAt (s.ea m) = .unmapped) :
    (s.afterValue m).draws = (s.afterPointer m).draws + 1 := by
  rw [State.afterValue, State.afterRead_draws, State.drawsAt_unmapped (by simpa using h)]

/-! ## STA and LDA -/

/-- R223: every form of STA stores A. -/
theorem exec_sta {i : Instr} {m : MemMode} (hmn : i.mnemonic = .STA) (hop : i.operand = .mem m) (s : State) :
    exec i s = storing m State.a s := by
  cases i with
  | staZp | staZpx | staAbs | staAbx | staAby | staIzx | staIzy =>
    obtain rfl := Operand.mem.inj hop
    rfl
  | _ => cases hmn

/-- R220: every form of LDA with an operand in memory loads it. -/
theorem exec_lda {i : Instr} {m : MemMode} (hmn : i.mnemonic = .LDA) (hop : i.operand = .mem m) (s : State) :
    exec i s = reading m State.lda s := by
  cases i with
  | ldaImm => cases hop
  | ldaZp | ldaZpx | ldaAbs | ldaAbx | ldaAby | ldaIzx | ldaIzy =>
    obtain rfl := Operand.mem.inj hop
    rfl
  | _ => cases hmn

/-- After STA to a ram address its byte there is A, and ram still stands there. -/
theorem sta_stored {i : Instr} {s t : State} {m : MemMode} (hmn : i.mnemonic = .STA) (hop : i.operand = .mem m)
    (hram : s.kindAt (s.ea m) = .ram) (h : exec i s = .next t) :
    t.kindAt (s.ea m) = .ram ∧ Memory.read t.mem (s.ea m).toNat = s.a := by
  rw [exec_sta hmn hop] at h
  obtain ⟨-, rfl⟩ := storing_next.mp h
  have hkind : ((s.start (modeLen m)).afterPointer m).kindAt (s.ea m) = .ram := by simpa using hram
  exact ⟨hkind, by simp [State.write_read, hkind]⟩

/-! ## The fetch -/

/-- An instruction of one byte is its op-code. -/
theorem encode_eq_singleton {i : Instr} (h : i.length = 1) : encode i = [i.opcode] := by
  obtain ⟨b, hb⟩ := List.length_eq_one_iff.mp h
  rw [Instr.opcode, hb]
  rfl

/-- A one-byte op-code stored at PC is fetched, and changes nothing on the way. -/
theorem fetch_stored {t : State} {j : Instr} (hlen : j.length = 1)
    (hkind : t.kindAt t.pc = .ram) (hop : Memory.read t.mem t.pc.toNat = j.opcode) : fetch t = .next (j, t) := by
  obtain ⟨hpeeks, hafter⟩ := State.reads_stored (s := t) (as := [t.pc]) (by simp [AllStored, hkind])
  have haddrs : t.pc :: operandAddrs t.pc j.length = [t.pc] := by simp [hlen, operandAddrs]
  have hfetch : fetch t = .next (j, t.afterReads (t.pc :: operandAddrs t.pc j.length)) :=
    fetch_encode (by simp [haddrs, hkind]) (by simp [haddrs, hpeeks, hop, encode_eq_singleton hlen])
  rwa [haddrs, hafter] at hfetch

/-- R57: a device at PC refuses the fetch. -/
theorem fetch_device_at_pc {s : State} (h : s.kindAt s.pc = .device) :
    fetch s = .refused (.deviceAccess s.pc) := by
  simp [fetch, State.blocked, h]

/-- R66: so does a device at an operand byte of the instruction that the op-code selects. -/
theorem fetch_device_at_operand {s : State} {i : Instr} (hpc : s.kindAt s.pc ≠ .device)
    (hop : s.peek s.pc = i.opcode) (h : ¬ s.clear (operandAddrs s.pc i.length)) :
    ∃ a ∈ operandAddrs s.pc i.length, s.kindAt a = .device ∧ fetch s = .refused (.deviceAccess a) := by
  obtain ⟨a, ha⟩ := Option.ne_none_iff_exists'.mp (mt (s.blocked_eq_none _).mp h)
  obtain ⟨hmem, hkind⟩ := State.blocked_some ha
  have hpcFree : s.blocked [s.pc] = none := (s.blocked_eq_none _).mpr (by simpa using hpc)
  have hoperand : (s.afterRead s.pc).blocked (operandAddrs s.pc i.length) = some a :=
    (State.blocked_congr (s.afterRead_platform _) _).trans ha
  exact ⟨a, hmem, hkind, by simp [fetch, hpcFree, hop, hoperand]⟩

theorem step_of_fetch_refused {s s1 : State} {r : Refusal} (hb : boundary s = .execute s1)
    (hf : fetch s1 = .refused r) : step s = .refused r := by
  simp [step, hb, hf]

end Sys2Proof.Machine

namespace Sys2Proof
open Machine

/-- Settles O7: the fetch's two guards, on PC and on the operand bytes. -/
theorem fetchFromDeviceIsRefused : Obligations.FetchFromDeviceIsRefused := by
  intro s s1 hb
  refine ⟨fun hdevice => step_of_fetch_refused hb (fetch_device_at_pc hdevice), fun i hpc hop hdevice => ?_⟩
  obtain ⟨a, ha, hkind, hf⟩ := fetch_device_at_operand hpc hop hdevice
  exact ⟨a, ha, hkind, step_of_fetch_refused hb hf⟩

/-- Settles O9: the pointer's reads and the operand's are one sequence of reads of stored bytes. -/
theorem operandIsTheStoredByte : Obligations.OperandIsTheStoredByte := by
  refine ⟨fun s as => State.reads_stored, fun s m h => ?_⟩
  have hpointer : s.afterPointer m = s :=
    (State.reads_stored fun a ha => h a (List.mem_append_left _ ha)).2
  have hea : s.kindAt (s.ea m) ≠ .unmapped := mapped_of_allStored h (by simp)
  exact ⟨State.value_mapped hea, by rw [State.afterValue, hpointer, s.afterRead_mapped _ hea]⟩

/-- Settles O32: the store leaves A in ram at the address, and the load's operand is the byte there. -/
theorem loadSeesLatestStore : Obligations.LoadSeesLatestStore := by
  intro i j s t u m m' hsta hm hlda hm' hram hstore hea hload
  obtain ⟨hkind, hbyte⟩ := sta_stored hsta hm hram hstore
  rw [exec_lda hlda hm'] at hload
  obtain ⟨-, rfl⟩ := reading_next.mp hload
  calc t.value m' = Memory.read t.mem (t.ea m').toNat := State.value_mapped (by simp [hea, hkind])
    _ = s.a := by rw [hea, hbyte]

/-- Settles O33: the store leaves the op-code in ram at PC, where the fetch finds it. -/
theorem fetchSeesLatestStore : Obligations.FetchSeesLatestStore := by
  intro i j s t m hsta hm hram hstore hpc hlen hop
  obtain ⟨hkind, hbyte⟩ := sta_stored hsta hm hram hstore
  rw [← hpc] at hkind hbyte
  exact fetch_stored hlen hkind (hbyte.trans hop)

/-- Settles O58: the operand is the draw after the pointer's, and LDA, which completes where it touches no
device, loads it. -/
theorem unmappedReadsAreFresh : Obligations.UnmappedReadsAreFresh := by
  intro s m hunmapped
  have hvalue := State.value_unmapped hunmapped
  have hdraws := State.afterValue_draws_unmapped hunmapped
  refine ⟨hvalue, hdraws, fun i hmn hop haccessible => ?_⟩
  obtain ⟨t, ht⟩ := (exec_accesses i s).completes_iff.mpr haccessible
  have hload : reading m State.lda s = .next t := exec_lda hmn hop s ▸ ht
  obtain ⟨-, rfl⟩ := reading_next.mp hload
  refine ⟨_, ht, hvalue, ?_⟩
  rw [State.lda_draws, State.start_afterValue, hdraws]

end Sys2Proof
end

section
/-! The op-code map (30_encoding.md R80 to R83, R97, R100): which instruction an op-code byte and the bytes after
it give. An op-code is an instruction's or unlisted, and an instruction's op-code followed by any operand bytes is
an instruction of the same mnemonic and mode; so the decoder inverts the encoder both ways, and the rows and the
written forms are the instructions. -/

namespace Sys2Proof
open Spec Laws

/-! ## The operand of each mode -/

/-- The operand that the bytes `b1` and `b2` hold, as far as the mode has them (R83). -/
def Mode.operandFrom (b1 b2 : Byte) : Mode → Operand
  | .IMP => .imp
  | .ACC => .acc
  | .IMM => .imm b1
  | .ZP => .mem (.zp b1)
  | .ZPX => .mem (.zpx b1)
  | .ZPY => .mem (.zpy b1)
  | .ABS => .mem (.abs (joinAddr b1 b2))
  | .ABX => .mem (.abx (joinAddr b1 b2))
  | .ABY => .mem (.aby (joinAddr b1 b2))
  | .IZX => .mem (.izx b1)
  | .IZY => .mem (.izy b1)
  | .IND => .ind (joinAddr b1 b2)
  | .REL => .rel b1

@[simp] theorem Mode.operandFrom_mode (b1 b2 : Byte) (mode : Mode) :
    (mode.operandFrom b1 b2).mode = mode := by
  cases mode <;> rfl

theorem joinAddr_toNat (lo hi : Byte) : (joinAddr lo hi).toNat = hi.toNat * 256 + lo.toNat := by
  rw [joinAddr, BitVec.toNat_append, ← Nat.shiftLeft_add_eq_or_of_lt lo.isLt, Nat.shiftLeft_eq]

/-- Every value that fits the operand's bytes is held by some. -/
theorem Mode.operandFrom_value (mode : Mode) {v : Nat} (h : v < mode.operandValues) :
    (mode.operandFrom (BitVec.ofNat 8 v) (BitVec.ofNat 8 (v / 256))).value = v := by
  cases mode with
  | IMP | ACC => exact (Nat.lt_one_iff.mp h).symm
  | IMM | ZP | ZPX | ZPY | IZX | IZY | REL => exact Nat.mod_eq_of_lt h
  | ABS | ABX | ABY | IND =>
    change v < 65536 at h
    change (joinAddr _ _).toNat = v
    rw [joinAddr_toNat, BitVec.toNat_ofNat, BitVec.toNat_ofNat]
    omega

theorem MemMode.value_lt (m : MemMode) : m.value < m.mode.operandValues := by
  cases m <;> exact BitVec.isLt _

theorem Operand.value_lt (o : Operand) : o.value < o.mode.operandValues := by
  cases o with
  | imp | acc => exact Nat.one_pos
  | mem m => exact m.value_lt
  | imm | ind | rel => exact BitVec.isLt _

/-! ## Op-codes -/

/-- R81: an instruction is as long as its mode says. -/
theorem Instr.length_eq (i : Instr) : i.length = 1 + operandBytes i.mode := by
  cases i <;> rfl

/-- The op-code alone decides the mnemonic and the mode, so that the operand bytes need not be `i`'s own. -/
theorem decodeOp_form {i : Instr} {op : Byte} {operands : List Byte} (h : encode i = op :: operands)
    (b1 b2 : Byte) : (decodeOp op b1 b2).map Instr.form = some (i.mnemonic, i.mode.operandFrom b1 b2) := by
  cases i <;> cases h <;> rfl

/-- What is decoded has the op-code and the operand bytes given, as many as `i` has. -/
theorem decodeOp_bytes {i : Instr} {op : Byte} {operands : List Byte} (h : encode i = op :: operands)
    (b1 b2 : Byte) : (decodeOp op b1 b2).map encode = some (op :: [b1, b2].take operands.length) := by
  cases i
  all_goals
    cases h
    change some _ = some _
    simp [encode]

/-- R82, R83: the op-code of an instruction, whatever bytes follow it, is that of an instruction with the same
mnemonic and mode and the operand that those bytes hold. -/
theorem decodeOp_opcode (i : Instr) (b1 b2 : Byte) :
    ∃ j, decodeOp i.opcode b1 b2 = some j ∧ j.mnemonic = i.mnemonic ∧ j.operand = i.mode.operandFrom b1 b2 ∧
      encode j = i.opcode :: [b1, b2].take (i.length - 1) := by
  have hbytes := encode_eq_opcode_cons i
  obtain ⟨j, hj, hform⟩ := Option.map_eq_some_iff.mp (decodeOp_form hbytes b1 b2)
  obtain ⟨k, hk, hencode⟩ := Option.map_eq_some_iff.mp (decodeOp_bytes hbytes b1 b2)
  obtain rfl : j = k := Option.some.inj (hj.symm.trans hk)
  rw [List.length_tail] at hencode
  obtain ⟨hmn, hoperand⟩ := Prod.ext_iff.mp hform
  exact ⟨j, hj, hmn, hoperand, hencode⟩

/-- The 256 op-code bytes, one by one: 151 are an instruction's and the rest stand in the list of R100. -/
theorem decodeOp_opcode_or_unlisted :
    ∀ op : Byte, (decodeOp op 0x00#8 0x00#8).map Instr.opcode = some op ∨ op ∈ unlisted := by
  decide

/-- R97, R100: a byte that is not one of the 105 is the op-code of an instruction. -/
theorem exists_opcode {op : Byte} (h : op ∉ unlisted) : ∃ i : Instr, i.opcode = op := by
  obtain ⟨i, -, hi⟩ := Option.map_eq_some_iff.mp ((decodeOp_opcode_or_unlisted op).resolve_right h)
  exact ⟨i, hi⟩

/-- R100: an unlisted op-code gives no instruction, whatever bytes follow. -/
theorem decodeOp_unlisted {op : Byte} (h : op ∈ unlisted) (b1 b2 : Byte) : decodeOp op b1 b2 = none := by
  fin_cases h <;> rfl

/-- R100: the op-codes without a meaning are the 105. -/
theorem decodeOp_eq_none {op b1 b2 : Byte} : decodeOp op b1 b2 = none ↔ op ∈ unlisted := by
  refine ⟨fun h => ?_, fun h => decodeOp_unlisted h b1 b2⟩
  by_contra hlisted
  obtain ⟨i, rfl⟩ := exists_opcode hlisted
  obtain ⟨j, hj, -⟩ := decodeOp_opcode i b1 b2
  exact nomatch h.symm.trans hj

/-- What an op-code and two bytes decode to has them as its own bytes, as far as it is long. -/
theorem encode_of_decodeOp {op b1 b2 : Byte} {i : Instr} (h : decodeOp op b1 b2 = some i) :
    encode i = op :: [b1, b2].take (i.length - 1) := by
  have hlisted : op ∉ unlisted := fun hop => nomatch (decodeOp_unlisted hop b1 b2).symm.trans h
  obtain ⟨k, rfl⟩ := exists_opcode hlisted
  obtain ⟨j, hj, -, hoperand, hencode⟩ := decodeOp_opcode k b1 b2
  obtain rfl : j = i := Option.some.inj (hj.symm.trans h)
  have hmode : j.mode = k.mode := by rw [Instr.mode, hoperand, Mode.operandFrom_mode]
  rwa [j.length_eq, hmode, ← k.length_eq]

/-! ## Decoding bytes -/

theorem Instr.length_le_three (i : Instr) : i.length ≤ 3 := by
  rw [i.length_eq]
  cases i.mode <;> decide

/-- The decoder's two operand bytes are the first two after the op-code. -/
theorem take_getD_pair {bs : List Byte} {n : Nat} (hn : n ≤ 2) (hlen : n ≤ bs.length) (d : Byte) :
    [bs.getD 0 d, bs.getD 1 d].take n = bs.take n := by
  match n, bs with
  | 0, _ => rfl
  | 1, _ :: _ => rfl
  | 2, _ :: _ :: _ => rfl

/-- Bytes that decode to an instruction begin with its own. -/
theorem eq_encode_append_of_decode {bytes rest : List Byte} {i : Instr} (h : decode bytes = .ok (i, rest)) :
    bytes = encode i ++ rest := by
  unfold decode at h
  split at h
  case h_1 => exact nomatch h
  case h_2 op bs =>
    split at h
    case h_1 => exact nomatch h
    case h_2 j hop =>
      split at h
      case isTrue => exact nomatch h
      case isFalse hlong =>
        cases h
        have hthree := i.length_le_three
        rw [encode_of_decodeOp hop, take_getD_pair (by omega) (by omega), List.cons_append,
          List.take_append_drop]

/-- R80, R83: an instruction's op-code followed by as many bytes as it has is an instruction. -/
theorem exists_encode_eq (i : Instr) {bs : List Byte} (hlen : bs.length = i.length - 1) :
    ∃ j, encode j = i.opcode :: bs := by
  have hthree := i.length_le_three
  obtain ⟨j, -, -, -, hencode⟩ := decodeOp_opcode i (bs.getD 0 0x00#8) (bs.getD 1 0x00#8)
  rw [take_getD_pair (by omega) (by omega), ← hlen, List.take_length] at hencode
  exact ⟨j, hencode⟩

/-! ## The rows of R97 and the lists of R105 -/

theorem row_mem (i : Instr) : (i.mode, i.opcode) ∈ opcodeRows i.mnemonic := by
  cases i <;> exact List.elem_iff.mp rfl

theorem opcodeRows_decode (mn : Mnemonic) : ∀ row ∈ opcodeRows mn,
    (decodeOp row.2 0x00#8 0x00#8).map (fun i => (i.mnemonic, i.mode, i.opcode)) = some (mn, row) := by
  cases mn <;> decide

/-- Every row of R97 is an instruction's. -/
theorem exists_of_row {mn : Mnemonic} {row : Mode × Byte} (h : row ∈ opcodeRows mn) :
    ∃ i : Instr, i.mnemonic = mn ∧ i.mode = row.1 ∧ i.opcode = row.2 := by
  obtain ⟨i, -, hi⟩ := Option.map_eq_some_iff.mp (opcodeRows_decode mn row h)
  cases hi
  exact ⟨i, rfl, rfl, rfl⟩

theorem encodedAs (mn : Mnemonic) : EncodedAs mn :=
  ⟨fun i hi => hi ▸ row_mem i, fun _ => exists_of_row⟩

/-- R97: an op-code stands in one row. -/
theorem mnemonic_mode_of_opcode_eq {i j : Instr} (h : i.opcode = j.opcode) :
    i.mnemonic = j.mnemonic ∧ i.mode = j.mode := by
  obtain ⟨k, hk, hki, hoperandi, -⟩ := decodeOp_opcode i 0x00#8 0x00#8
  obtain ⟨l, hl, hlj, hoperandj, -⟩ := decodeOp_opcode j 0x00#8 0x00#8
  obtain rfl : k = l := Option.some.inj (hk.symm.trans (h ▸ hl))
  exact ⟨hki.symm.trans hlj, by simpa using congrArg Operand.mode (hoperandi.symm.trans hoperandj)⟩

theorem usedBy_of_row (mn : Mnemonic) : ∀ row ∈ opcodeRows mn, mn ∈ row.1.usedBy := by
  cases mn <;> decide

theorem row_of_usedBy (mode : Mode) : ∀ mn ∈ mode.usedBy, ∃ row ∈ opcodeRows mn, row.1 = mode := by
  cases mode <;> decide

/-- R105, R106: every instruction is well-formed as it is written. -/
theorem Instr.written_wellFormed (i : Instr) : i.written.wellFormed = true :=
  Bool.and_eq_true_iff.mpr
    ⟨List.elem_iff.mpr (usedBy_of_row _ _ (row_mem i)), decide_eq_true i.operand.value_lt⟩

/-- R100, R105: a form that the mode's list names exists with every operand value that fits. -/
theorem exists_written {w : Written} (h : w.wellFormed = true) : ∃ i : Instr, i.written = w := by
  obtain ⟨mn, mode, v⟩ := w
  obtain ⟨hform, hfits⟩ := Bool.and_eq_true_iff.mp h
  obtain ⟨row, hrow, rfl⟩ := row_of_usedBy mode mn (List.elem_iff.mp hform)
  obtain ⟨i, rfl, hmode, -⟩ := exists_of_row hrow
  obtain ⟨j, -, hmn, hoperand, -⟩ := decodeOp_opcode i (BitVec.ofNat 8 v) (BitVec.ofNat 8 (v / 256))
  have hvalue := Mode.operandFrom_value row.1 (of_decide_eq_true hfits)
  exact ⟨j, by rw [Instr.written, Instr.mode, hmn, hoperand, hmode, hvalue, Mode.operandFrom_mode]⟩

/-! ## The statements -/

/-- Settles O2: one direction is `decode_encode_append`, the other holds because
the decoder's op-code and operand bytes are the instruction's own (`encode_of_decodeOp`). -/
theorem decodeInvertsEncode : Obligations.DecodeInvertsEncode :=
  fun _ i rest => ⟨eq_encode_append_of_decode, fun h => h ▸ decode_encode_append i rest⟩

/-- Settles O3: each instruction's row stands in the table and each row decodes to an instruction. -/
theorem opcodeMapIsTheTable : Obligations.OpcodeMapIsTheTable := by
  refine ⟨encodedAs, fun i j => mnemonic_mode_of_opcode_eq, fun i => ?_⟩
  rw [i.length_eq]
  cases i.mode <;> rfl

/-- Settles O4: a form of the lists has a row, and the row's op-code takes every operand. -/
theorem formsAreTheMatrix : Obligations.FormsAreTheMatrix := by
  refine fun w => ⟨exists_written, ?_⟩
  rintro ⟨i, rfl⟩
  exact i.written_wellFormed

/-- Settles O1: the decoder computes on the twelve words. -/
theorem decodesWrittenWords : Obligations.DecodesWrittenWords := by
  unfold Obligations.DecodesWrittenWords
  and_intros <;> rfl

end Sys2Proof
end

section
/-! Unlisted op-codes, the only stop where no address is a device's (30_encoding.md R100, 60_exceptions.md
R301). -/

namespace Sys2Proof.Machine
open Spec

/-- R100: the fetch of an unlisted op-code is refused by name. -/
theorem fetch_unlisted {s : State} (hpc : s.kindAt s.pc ≠ .device) (hop : s.peek s.pc ∈ unlisted) :
    fetch s = .refused (.unlistedOpcode (s.peek s.pc)) := by
  have hpcFree : s.blocked [s.pc] = none := (s.blocked_eq_none _).mpr (by simpa using hpc)
  have hlength : opcodeLength (s.peek s.pc) = none := by rw [opcodeLength, decodeOp_unlisted hop]; rfl
  simp [fetch, hpcFree, hlength]

@[simp] theorem State.peeks_length (s : State) (as : List Addr) : (s.peeks as).length = as.length := by
  induction as generalizing s with
  | nil => rfl
  | cons a as ih => simp [State.peeks, ih]

@[simp] theorem operandAddrs_length (pc : Addr) (len : Nat) : (operandAddrs pc len).length = len - 1 := by
  simp [operandAddrs]

/-- R80: where a listed op-code stands at PC, the bytes from there on, as many as it selects, are an
instruction's. -/
theorem exists_encode_peeks {s : State} (hop : s.peek s.pc ∉ unlisted) :
    ∃ j : Instr, s.peeks (s.pc :: operandAddrs s.pc j.length) = encode j := by
  obtain ⟨i, hi⟩ := exists_opcode hop
  obtain ⟨j, hj⟩ := exists_encode_eq i (bs := (s.afterRead s.pc).peeks (operandAddrs s.pc i.length)) (by simp)
  have hpos : 1 ≤ i.length := by rw [i.length_eq]; omega
  have hlength : j.length = i.length := by
    rw [Instr.length, hj, List.length_cons, State.peeks_length, operandAddrs_length, Nat.sub_add_cancel hpos]
  exact ⟨j, by rw [hlength, hj, State.peeks, hi]⟩

/-- Without devices a fetch gives an instruction or meets an unlisted op-code. -/
theorem fetch_deviceFree {s : State} (h : s.deviceFree) :
    (∃ i as, fetch s = .next (i, s.afterReads as)) ∨
      ∃ op ∈ unlisted, fetch s = .refused (.unlistedOpcode op) := by
  by_cases hop : s.peek s.pc ∈ unlisted
  case pos => exact .inr ⟨_, hop, fetch_unlisted (h _) hop⟩
  case neg =>
    obtain ⟨j, hj⟩ := exists_encode_peeks hop
    exact .inl ⟨j, _, fetch_encode (h.clear _) hj⟩

theorem State.deviceFree.congr {s t : State} (hs : s.deviceFree) (h : t.platform = s.platform) : t.deviceFree :=
  fun a => State.kindAt_congr h a ▸ hs a

/-- The map does not change, so that no run meets a device where none stood at first. -/
theorem Reaches.deviceFree {s t : State} (h : Reaches s t) (hs : s.deviceFree) : t.deviceFree := by
  induction h with
  | refl => exact hs
  | tail _ hstep ih =>
    obtain ⟨_, hstores⟩ := step_stores hstep
    exact ih.congr hstores.platform

/-- Without devices an event that is taken completes. -/
theorem boundary_taken_deviceFree {s : State} {r : Result} (hs : s.deviceFree) (h : boundary s = .taken r) :
    ∃ t, r = .next t := by
  obtain ⟨k, n, rfl | rfl | rfl | rfl⟩ := boundary_taken h
  · exact (resetSequence_accesses _).completes_iff.mpr (hs.clear _)
  · exact (takeNmi_accesses _).completes_iff.mpr (hs.clear _)
  · exact (takeIrq_accesses _).completes_iff.mpr (hs.clear _)
  · exact (captureBrk_accesses _).completes_iff.mpr (hs.clear _)

theorem boundary_execute_deviceFree {s s1 : State} (hs : s.deviceFree) (h : boundary s = .execute s1) :
    s1.deviceFree := by
  obtain rfl | rfl | rfl := boundary_execute h <;> exact hs

/-- R301: without devices a step stops at an unlisted op-code alone. -/
theorem step_deviceFree {s : State} (hs : s.deviceFree) :
    (∃ t, step s = .next t) ∨ ∃ op ∈ unlisted, step s = .refused (.unlistedOpcode op) := by
  cases hb : boundary s with
  | taken r => exact .inl (step_of_taken hb ▸ boundary_taken_deviceFree hs hb)
  | execute s1 =>
    have hs1 := boundary_execute_deviceFree hs hb
    obtain ⟨i, as, hf⟩ | ⟨op, hop, hf⟩ := fetch_deviceFree hs1
    · have hfree : (s1.afterReads as).deviceFree := hs1.congr (by rw [State.afterReads_eq])
      exact .inl (step_of_fetch hb hf ▸ (exec_accesses i _).completes_iff.mpr (hfree.clear _))
    · exact .inr ⟨op, hop, step_of_fetch_refused hb hf⟩

end Sys2Proof.Machine

namespace Sys2Proof
open Machine

/-- Settles O5: the decoder gives no instruction for the 105 bytes alone, and the fetch refuses them. -/
theorem unlistedOpcodesAreRefused : Obligations.UnlistedOpcodesAreRefused :=
  ⟨fun _ _ _ => decodeOp_eq_none,
    fun _ _ hb hpc hop => step_of_fetch_refused hb (fetch_unlisted hpc hop)⟩

/-- Settles O51: no step brings in a device, and without one each step goes on or meets an unlisted op-code. -/
theorem runsStopOnlyAtUnlistedOpcodes : Obligations.RunsStopOnlyAtUnlistedOpcodes :=
  fun _ _ hs hreaches => step_deviceFree (hreaches.deviceFree hs)

end Sys2Proof
end

section
/-! The effective address of each mode (30_encoding.md R87 to R94, 20_memory.md R68). -/

namespace Sys2Proof.Machine

/-- R68: two reads in sequence are the low and the high byte of a pair. -/
theorem State.peekPair_of_peeks {s : State} {a b : Addr} {lo hi : Byte} (h : s.peeks [a, b] = [lo, hi]) :
    s.peekPair a b = hi ++ lo := by
  obtain ⟨rfl, rfl⟩ : s.peek a = lo ∧ (s.afterRead a).peek b = hi := by simpa [State.peeks] using h
  rfl

/-- A mode that adds no index with a carry has its base as the effective address. -/
theorem State.ea_of_indexOf_zero {s : State} {m : MemMode} (h : s.indexOf m = 0#8) : s.ea m = s.base m := by
  simp [State.ea, h]

end Sys2Proof.Machine

namespace Sys2Proof
open Machine

/-- Settles O8: the effective address is the base plus the index, and the base of a pointer mode is the pair of
bytes read at the pointer. -/
theorem effectiveAddresses : Obligations.EffectiveAddresses := by
  refine fun s z lo hi addr => ⟨State.ea_of_indexOf_zero rfl, State.ea_of_indexOf_zero rfl,
    State.ea_of_indexOf_zero rfl, State.ea_of_indexOf_zero rfl, rfl, rfl, fun h => ?_, fun h => ?_⟩
  · rw [State.ea_of_indexOf_zero rfl]
    exact State.peekPair_of_peeks h
  · exact congrArg (· + s.y.setWidth 16) (State.peekPair_of_peeks h)

end Sys2Proof
end

section
/-! The instructions that read an operand and keep memory: each is its mnemonic's result function, on the byte
that the operand selects and the state past the instruction. -/

namespace Sys2Proof.Machine
open Spec Laws

/-- What a mnemonic that only reads its operand does with it; `none` for every other mnemonic. -/
def resultOf : Mnemonic → Option (Byte → State → State)
  | .ADC => some State.adc
  | .SBC => some State.sbc
  | .CMP => some State.cmp
  | .CPX => some State.cpx
  | .CPY => some State.cpy
  | .AND => some State.andA
  | .EOR => some State.eorA
  | .ORA => some State.oraA
  | .BIT => some State.bit
  | .LDA => some State.lda
  | .LDX => some State.ldx
  | .LDY => some State.ldy
  | _ => none

section
variable (i : Instr) (s : State)
@[simp] theorem advanced_a : (advanced i s).a = s.a := rfl
@[simp] theorem advanced_c : (advanced i s).c = s.c := rfl
end

section
variable {i : Instr} {f : Byte → State → State} {s t : State}

/-- R86: the immediate shape touches nothing. -/
theorem immediate_eq_touching {v : Byte} (hop : i.operand = .imm v) (hlen : i.length = 2) :
    immediate v f s = s.touching (touched i s) (f (operand i s) (advanced i s)) := by
  have htouched : touched i s = [] := by simp [touched, hop]
  have hadvanced : advanced i s = s.start 2#16 := by simp [advanced, State.start, hop, hlen]
  rw [htouched, hadvanced, operand, hop]
  rfl

/-- R81: how far the memory shape moves PC. -/
theorem modeLen_eq (m : MemMode) : modeLen m = BitVec.ofNat 16 (1 + operandBytes m.mode) := by
  cases m <;> rfl

/-- R87 to R94: the shape with an operand in memory touches what the mode does. -/
theorem reading_eq_touching {m : MemMode} (hop : i.operand = .mem m) (htouched : touched i s = s.touches m) :
    reading m f s = s.touching (touched i s) (f (operand i s) (advanced i s)) := by
  have hlen : modeLen m = BitVec.ofNat 16 i.length := by
    rw [modeLen_eq, i.length_eq, Instr.mode, hop]
    rfl
  have hadvanced : (s.start (modeLen m)).afterValue m = advanced i s := by
    rw [State.start_afterValue, advanced, hop, hlen]
    rfl
  have hoperand : operand i s = s.value m := by rw [operand, hop]
  rw [reading, State.start_touches, State.start_value, hadvanced, htouched, hoperand]
  exact State.touching_congr (State.start_platform ..) _ _

/-- Every form of a reading mnemonic has its result, and touches `Spec.touched`. -/
theorem exec_eq_touching (h : resultOf i.mnemonic = some f) (s : State) :
    exec i s = s.touching (touched i s) (f (operand i s) (advanced i s)) := by
  cases i with
  | adcImm | sbcImm | cmpImm | cpxImm | cpyImm | andImm | eorImm | oraImm | ldaImm | ldxImm | ldyImm =>
    obtain rfl := Option.some.inj h
    exact immediate_eq_touching rfl rfl
  | adcZp | adcZpx | adcAbs | adcAbx | adcAby | adcIzx | adcIzy
  | sbcZp | sbcZpx | sbcAbs | sbcAbx | sbcAby | sbcIzx | sbcIzy
  | cmpZp | cmpZpx | cmpAbs | cmpAbx | cmpAby | cmpIzx | cmpIzy
  | cpxZp | cpxAbs | cpyZp | cpyAbs
  | andZp | andZpx | andAbs | andAbx | andAby | andIzx | andIzy
  | eorZp | eorZpx | eorAbs | eorAbx | eorAby | eorIzx | eorIzy
  | oraZp | oraZpx | oraAbs | oraAbx | oraAby | oraIzx | oraIzy
  | bitZp | bitAbs
  | ldaZp | ldaZpx | ldaAbs | ldaAbx | ldaAby | ldaIzx | ldaIzy
  | ldxZp | ldxZpy | ldxAbs | ldxAby | ldyZp | ldyZpx | ldyAbs | ldyAbx =>
    obtain rfl := Option.some.inj h
    exact reading_eq_touching rfl rfl
  | _ => exact nomatch h

/-- The result where no device is touched. -/
theorem exec_of_accessible {mn : Mnemonic} (hmn : i.mnemonic = mn) (hf : resultOf mn = some f)
    (haccessible : Accessible i s) : exec i s = .next (f (operand i s) (advanced i s)) := by
  rw [exec_eq_touching (hmn ▸ hf), State.touching_clear haccessible]

/-- The result wherever there is a next state. -/
theorem eq_result_of_exec {mn : Mnemonic} (hmn : i.mnemonic = mn) (hf : resultOf mn = some f)
    (hexec : exec i s = .next t) : t = f (operand i s) (advanced i s) := by
  rw [exec_eq_touching (hmn ▸ hf)] at hexec
  exact (State.touching_next.mp hexec).2

end

end Sys2Proof.Machine
end

section
/-! Addition, subtraction and comparison (40_arithmetic.md R121 to R127): ADC and SBC by the mode of arithmetic
that they run in, their outputs in the spec's arithmetic, and the integer and decimal laws of these outputs. -/

namespace Sys2Proof.Machine

/-! ## Which algorithm ADC and SBC run -/

section
variable {s : State} {m : Byte}

theorem State.adc_binary (hd : s.d = false) : State.adc m s = s.putAlu (adcBinary s.a m s.c) := by
  simp [State.adc, hd]

theorem State.adc_decimal (hd : s.d = true) : State.adc m s = s.putDecimal m (adcDecimal s.a m s.c) := by
  simp [State.adc, hd]

theorem State.sbc_binary (hd : s.d = false) : State.sbc m s = s.putAlu (sbcBinary s.a m s.c) := by
  simp [State.sbc, hd]

theorem State.sbc_decimal (hd : s.d = true) : State.sbc m s = s.putDecimal m (sbcDecimal s.a m s.c) := by
  simp [State.sbc, hd]

theorem State.putDecimal_nmos (h : s.platform.decimal = .nmos) (r : AluOut) : s.putDecimal m r = s.putAlu r := by
  simp [State.putDecimal, h]

/-- D11: for operands of two decimal digits both readings of `DecimalModel` give the algorithm's A and C. -/
theorem State.putDecimal_valid (ha : validBcd s.a = true) (hm : validBcd m = true) (r : AluOut) :
    (s.putDecimal m r).a = r.a ∧ (s.putDecimal m r).c = r.c := by
  obtain hput | hput := s.putDecimal_cases m r
  · simp [hput]
  · simp [hput, State.putAluDrawn, ha, hm]

end

/-! ## The outputs as the spec writes them -/

section
variable (a m r : Byte) (c : Bool)

/-- R126, R127: `& 0xF0` keeps the high digit in its place. -/
theorem toNat_and_highDigit (b : Byte) : (b &&& 0xF0#8).toNat = b.toNat / 16 * 16 := by
  revert b
  decide

/-- R126: N is bit 7 of the intermediate value, which need not fit a byte. -/
theorem msb_ofNat (t : Nat) : (BitVec.ofNat 8 t).msb = t.testBit 7 := by
  rw [BitVec.msb_eq_getLsbD_last, BitVec.getLsbD_ofNat]
  simp

/-- The carry as a number. -/
theorem toNat_decide (p : Prop) [Decidable p] : (decide p).toNat = if p then 1 else 0 := by
  split <;> simp [*]

/-- R122: the operand is complemented by an exclusive or. -/
theorem xor_FF : m ^^^ 0xFF#8 = ~~~m := BitVec.xor_allOnes

/-- R122: the overflow of adding the complement is that of the subtraction: the operands differ in sign, and the
result is not of the first one's. -/
theorem msb_overflow_not : ((a ^^^ r) &&& (~~~m ^^^ r)).msb = ((a ^^^ m) &&& (a ^^^ r)).msb := by
  simp only [BitVec.msb_and, BitVec.msb_xor, BitVec.msb_not]
  cases a.msb <;> cases m.msb <;> cases r.msb <;> rfl

theorem sbcBinary_v :
    (sbcBinary a m c).v = ((a ^^^ m) &&& (a ^^^ (sbcBinary a m c).a)).msb :=
  msb_overflow_not a m _

end

/-! ## The binary laws -/

section
variable (a m : Byte) (c : Bool)

/-- R121: the carry and the byte are the whole sum. -/
theorem adcBinary_exact :
    256 * (adcBinary a m c).c.toNat + (adcBinary a m c).a.toNat = a.toNat + m.toNat + c.toNat := by
  have hc := c.toNat_le
  simp only [adcBinary, BitVec.toNat_ofNat, toNat_decide]
  split <;> omega

/-- The signed reading of a byte. -/
theorem toInt_eq (b : Byte) : b.toInt = if 128 ≤ b.toNat then (b.toNat : Int) - 256 else b.toNat := by
  rw [BitVec.toInt_eq_toNat_cond]
  split <;> split <;> omega

/-- R121: V says that the result has the sign of neither operand. -/
theorem msb_overflow_iff (r : Byte) :
    ((a ^^^ r) &&& (m ^^^ r)).msb = true ↔
      ¬ (128 ≤ a.toNat ↔ 128 ≤ r.toNat) ∧ ¬ (128 ≤ m.toNat ↔ 128 ≤ r.toNat) := by
  rw [BitVec.msb_and, BitVec.msb_xor, BitVec.msb_xor]
  simp [BitVec.msb_eq_decide]

/-- R121: V says that the signed sum does not fit a byte. -/
theorem adcBinary_v_iff :
    (adcBinary a m c).v = true ↔
      a.toInt + m.toInt + c.toNat < -128 ∨ 127 < a.toInt + m.toInt + c.toNat := by
  have hc := c.toNat_le
  have hr : (adcBinary a m c).a.toNat = (a.toNat + m.toNat + c.toNat) % 256 := BitVec.toNat_ofNat ..
  refine (msb_overflow_iff a m (adcBinary a m c).a).trans ?_
  rw [hr, toInt_eq a, toInt_eq m]
  split <;> split <;> omega

theorem toInt_complement : (~~~m).toInt = -1 - m.toInt := by
  rw [toInt_eq, toInt_eq, BitVec.toNat_not]
  split <;> split <;> omega

/-- R122: the byte less the borrow is the whole difference. -/
theorem sbcBinary_exact :
    ((sbcBinary a m c).a.toNat : Int) - 256 * (1 - (sbcBinary a m c).c.toNat) =
      a.toNat - m.toNat - (1 - c.toNat) := by
  have hsum := adcBinary_exact a (~~~m) c
  rw [BitVec.toNat_not] at hsum
  rw [sbcBinary]
  omega

/-- R122: V says that the signed difference does not fit a byte. -/
theorem sbcBinary_v_iff :
    (sbcBinary a m c).v = true ↔
      a.toInt - m.toInt - (1 - c.toNat) < -128 ∨ 127 < a.toInt - m.toInt - (1 - c.toNat) := by
  rw [sbcBinary, adcBinary_v_iff, toInt_complement]
  omega

end

/-! ## The decimal laws -/

section
open Spec
variable {a m : Byte} (c : Bool)

theorem validBcd_iff {b : Byte} : validBcd b = true ↔ b.toNat % 16 ≤ 9 ∧ b.toNat / 16 ≤ 9 := by
  simp [validBcd]

/-- R126: a low digit past 9 is carried over the six values that are no digits. -/
theorem adcLowDigit_valid (ha : a.toNat % 16 ≤ 9) (hm : m.toNat % 16 ≤ 9) :
    adcLowDigit a m c =
      a.toNat % 16 + m.toNat % 16 + c.toNat + if 10 ≤ a.toNat % 16 + m.toNat % 16 + c.toNat then 6 else 0 := by
  have hc := c.toNat_le
  simp only [adcLowDigit]
  split <;> omega

/-- R126: for two-digit operands the carry and the digits are the decimal sum. -/
theorem adcDecimal_exact (ha : validBcd a = true) (hm : validBcd m = true) :
    validBcd (adcDecimal a m c).a = true ∧
      100 * (adcDecimal a m c).c.toNat + decimalValue (adcDecimal a m c).a =
        decimalValue a + decimalValue m + c.toNat := by
  obtain ⟨hal, hah⟩ := validBcd_iff.mp ha
  obtain ⟨hml, hmh⟩ := validBcd_iff.mp hm
  have hc := c.toNat_le
  simp only [validBcd_iff, decimalValue, adcDecimal, BitVec.toNat_ofNat, toNat_and_highDigit,
    adcLowDigit_valid c hal hml, toNat_decide]
  split <;> split <;> split <;> omega

/-- R127: a low digit below 0 borrows over the same six values. -/
theorem sbcLowDigit_valid (ha : a.toNat % 16 ≤ 9) (hm : m.toNat % 16 ≤ 9) :
    sbcLowDigit a m c = (a.toNat % 16 : Nat) - (m.toNat % 16 : Nat) + c.toNat - 1 -
      if ((a.toNat % 16 : Nat) : Int) - (m.toNat % 16 : Nat) + c.toNat - 1 < 0 then 6 else 0 := by
  simp only [sbcLowDigit]
  split <;> omega

/-- R127: for two-digit operands the digits less the borrow are the decimal difference. -/
theorem sbcDecimal_exact (ha : validBcd a = true) (hm : validBcd m = true) :
    validBcd (sbcDecimal a m c).a = true ∧
      (decimalValue (sbcDecimal a m c).a : Int) - 100 * (1 - (sbcDecimal a m c).c.toNat) =
        decimalValue a - decimalValue m - (1 - c.toNat) := by
  obtain ⟨hal, hah⟩ := validBcd_iff.mp ha
  obtain ⟨hml, hmh⟩ := validBcd_iff.mp hm
  have hc := c.toNat_le
  simp only [validBcd_iff, decimalValue, sbcDecimal, sbcBinary, adcBinary, BitVec.toNat_ofInt,
    toNat_and_highDigit, BitVec.toNat_not, sbcLowDigit_valid c hal hml, toNat_decide]
  split <;> split <;> split <;> omega

end

/-! ## Comparison -/

/-- R123: Z says that the register and the operand are equal, and N is bit 7 of the wrapped difference. -/
theorem State.compare_eq (s : State) (reg m : Byte) :
    s.compare reg m =
      { s with c := decide (m.toNat ≤ reg.toNat), z := decide (reg = m), n := (reg - m).getLsbD 7 } := by
  have hz : (reg - m == 0#8) = decide (reg = m) := by
    rw [beq_eq_decide, decide_eq_decide]
    exact sub_eq_zero
  rw [State.compare, State.setNZ, hz, BitVec.msb_eq_getLsbD_last]

end Sys2Proof.Machine

namespace Sys2Proof
open Machine Spec

/-- Settles O10: the eight forms share ADC's result function, and D and the `DecimalModel` select its algorithm. -/
theorem addResult : Obligations.AddResult := by
  refine ⟨encodedAs .ADC, fun i s hmn haccessible => ?_⟩
  simp only [exec_of_accessible hmn rfl haccessible]
  refine ⟨fun hd => ?_, fun hd hnmos => ?_⟩
  · rw [State.adc_binary (s := advanced i s) hd]
    rfl
  · rw [State.adc_decimal (s := advanced i s) hd, State.putDecimal_nmos (s := advanced i s) hnmos]
    simp only [State.putAlu, adcDecimal, toNat_and_highDigit, msb_ofNat]
    rfl

/-- Settles O11: the same for SBC, which adds the complement of its operand. -/
theorem subtractResult : Obligations.SubtractResult := by
  refine ⟨encodedAs .SBC, fun i s hmn haccessible => ?_⟩
  simp only [exec_of_accessible hmn rfl haccessible, xor_FF]
  refine ⟨fun hd => ?_, fun hd hnmos => ?_⟩
  · rw [State.sbc_binary (s := advanced i s) hd, State.putAlu, sbcBinary_v]
    rfl
  · rw [State.sbc_decimal (s := advanced i s) hd, State.putDecimal_nmos (s := advanced i s) hnmos]
    simp only [State.putAlu, sbcDecimal, sbcBinary_v, toNat_and_highDigit]
    rfl

/-- Settles O12: the laws of the binary algorithm, which D = 0 selects. -/
theorem binaryArithmeticIsExact : Obligations.BinaryArithmeticIsExact := by
  refine fun i s t hd hexec => ⟨fun hmn => ?_, fun hmn => ?_⟩
  · obtain rfl := eq_result_of_exec hmn rfl hexec
    rw [State.adc_binary (s := advanced i s) hd]
    exact ⟨adcBinary_exact .., adcBinary_v_iff ..⟩
  · obtain rfl := eq_result_of_exec hmn rfl hexec
    rw [State.sbc_binary (s := advanced i s) hd]
    exact ⟨sbcBinary_exact .., sbcBinary_v_iff ..⟩

/-- Settles O13: the laws of the decimal algorithm, whose A and C both readings of `DecimalModel` keep for
operands of two decimal digits. -/
theorem decimalArithmeticIsDecimal : Obligations.DecimalArithmeticIsDecimal := by
  refine fun i s t hd hexec ha hm => ⟨fun hmn => ?_, fun hmn => ?_⟩
  · obtain rfl := eq_result_of_exec hmn rfl hexec
    obtain ⟨hputA, hputC⟩ := State.putDecimal_valid (s := advanced i s) ha hm (adcDecimal s.a (operand i s) s.c)
    rw [State.adc_decimal (s := advanced i s) hd, advanced_a, advanced_c, hputA, hputC]
    exact adcDecimal_exact _ ha hm
  · obtain rfl := eq_result_of_exec hmn rfl hexec
    obtain ⟨hputA, hputC⟩ := State.putDecimal_valid (s := advanced i s) ha hm (sbcDecimal s.a (operand i s) s.c)
    rw [State.sbc_decimal (s := advanced i s) hd, advanced_a, advanced_c, hputA, hputC]
    exact sbcDecimal_exact _ ha hm

/-- Settles O15: the three compares differ in the register alone. -/
theorem compareResults : Obligations.CompareResults := by
  refine ⟨encodedAs .CMP, encodedAs .CPX, encodedAs .CPY, fun i s haccessible =>
    ⟨fun hmn => ?_, fun hmn => ?_, fun hmn => ?_⟩⟩
  · rw [exec_of_accessible hmn rfl haccessible, State.cmp_eq, State.compare_eq]
    rfl
  · rw [exec_of_accessible hmn rfl haccessible, State.cpx_eq, State.compare_eq]
    rfl
  · rw [exec_of_accessible hmn rfl haccessible, State.cpy_eq, State.compare_eq]
    rfl

end Sys2Proof
end

section
/-! The logical instructions (41_logical.md R140 to R143): what each result function writes, in the spec's words,
with all else kept. -/

namespace Sys2Proof.Machine

/-- R27, R31: N is bit 7 of the result, and Z says that it is zero. -/
theorem State.setNZ_eq (s : State) (r : Byte) :
    s.setNZ r = { s with n := r.getLsbD 7, z := decide (r = 0#8) } := by
  rw [State.setNZ, BitVec.msb_eq_getLsbD_last, beq_eq_decide]

section
variable (m : Byte) (s : State)

/-- R140. -/
theorem State.andA_eq : State.andA m s =
    { s with a := s.a &&& m, n := (s.a &&& m).getLsbD 7, z := decide (s.a &&& m = 0#8) } :=
  State.setNZ_eq _ _

/-- R141. -/
theorem State.eorA_eq : State.eorA m s =
    { s with a := s.a ^^^ m, n := (s.a ^^^ m).getLsbD 7, z := decide (s.a ^^^ m = 0#8) } :=
  State.setNZ_eq _ _

/-- R142. -/
theorem State.oraA_eq : State.oraA m s =
    { s with a := s.a ||| m, n := (s.a ||| m).getLsbD 7, z := decide (s.a ||| m = 0#8) } :=
  State.setNZ_eq _ _

/-- R143: Z is of A and the operand together, N and V are the operand's own bits. -/
theorem State.bitTest_eq : s.bitTest m =
    { s with z := decide (s.a &&& m = 0#8), n := m.getLsbD 7, v := m.getLsbD 6 } := by
  rw [State.bitTest, beq_eq_decide]

end

end Sys2Proof.Machine

namespace Sys2Proof
open Machine Spec

/-- Settles O16: the forms of a mnemonic share its result function (`exec_of_accessible`), and the three result
functions differ in the bitwise operation alone. -/
theorem logicalResults : Obligations.LogicalResults := by
  refine ⟨encodedAs .AND, encodedAs .EOR, encodedAs .ORA, fun i s haccessible =>
    ⟨fun hmn => ?_, fun hmn => ?_, fun hmn => ?_⟩⟩
  · rw [exec_of_accessible hmn rfl haccessible, State.andA_eq, advanced_a]
  · rw [exec_of_accessible hmn rfl haccessible, State.eorA_eq, advanced_a]
  · rw [exec_of_accessible hmn rfl haccessible, State.oraA_eq, advanced_a]

/-- Settles O17: both forms share BIT's result function, which writes Z, N and V. -/
theorem bitTestResult : Obligations.BitTestResult := by
  refine ⟨encodedAs .BIT, fun i s hmn haccessible => ?_⟩
  rw [exec_of_accessible hmn rfl haccessible, State.bit_eq, State.bitTest_eq, advanced_a]
  rfl

end Sys2Proof
end

section
/-! The read-modify-write shape, for every mnemonic that has it, then the shifts (42_shift_rotate.md R150 to R154):
ASL, LSR, ROL and ROR differ in the byte and the bit that they make of a byte and C, and in nothing else. -/

namespace Sys2Proof.Machine
open Spec Laws

/-! ## Read-modify-write -/

section
variable {i : Instr} {m : MemMode} {s : State}

/-- R81, R87 to R94: past its bytes, its operand read, a memory form stands in `Spec.advanced`. -/
theorem afterValue_eq_advanced (hop : i.operand = .mem m) :
    (s.start (modeLen m)).afterValue m = advanced i s := by
  have hlen : modeLen m = BitVec.ofNat 16 i.length := by
    rw [modeLen_eq, i.length_eq, Instr.mode, hop]
    rfl
  rw [State.start_afterValue, advanced, hop, hlen]
  rfl

/-- The result of a read-modify-write form where no device is touched. -/
theorem exec_of_modifying {result : State → Byte → Byte} {flags : Byte → State → State}
    (hop : i.operand = .mem m) (hexec : exec i s = modifying m result flags s) (haccessible : Accessible i s) :
    exec i s = .next (flags (s.value m)
      ((advanced i s).write (s.ea m) (result (s.start (modeLen m)) (s.value m)))) := by
  obtain ⟨t, ht⟩ := (exec_accesses i s).completes_iff.mpr haccessible
  obtain ⟨-, rfl⟩ := modifying_next.mp (hexec ▸ ht)
  rw [ht, afterValue_eq_advanced hop]

end

/-! ## What a shift gives -/

section
variable (v : Byte) (c : Bool)

theorem ofNat_double : BitVec.ofNat 8 (2 * v.toNat) = v <<< 1 :=
  BitVec.eq_of_toNat_eq (by simp [Nat.shiftLeft_eq, Nat.mul_comm])

theorem ofNat_half : BitVec.ofNat 8 (v.toNat / 2) = v >>> 1 := by
  have hfits : v.toNat / 2 < 2 ^ 8 := (Nat.div_le_self _ _).trans_lt v.isLt
  rw [← BitVec.toNat_inj, BitVec.toNat_ofNat, Nat.mod_eq_of_lt hfits, BitVec.toNat_ushiftRight]
  rfl

/-- R151: a multiply by two. -/
theorem aslOut_eq : aslOut v c = ⟨BitVec.ofNat 8 (2 * v.toNat), v.getLsbD 7⟩ := by
  rw [aslOut, ofNat_double]

/-- R152: a halving. -/
theorem lsrOut_eq : lsrOut v c = ⟨BitVec.ofNat 8 (v.toNat / 2), v.getLsbD 0⟩ := by
  rw [lsrOut, ofNat_half]

/-- R152: a zero enters bit 7. -/
theorem half_getLsbD_seven : (BitVec.ofNat 8 (v.toNat / 2)).getLsbD 7 = false := by
  rw [ofNat_half, BitVec.getLsbD_ushiftRight]
  exact v.getLsbD_of_ge 8 le_rfl

/-- Where bit `k` is free, the old C enters it by addition. -/
theorem or_statusBit {u : Byte} {k : Nat} (hfree : u.getLsbD k = false) :
    u ||| statusBit c k = u + BitVec.ofNat 8 (c.toNat * 2 ^ k) := by
  have hbit : statusBit c k = BitVec.ofNat 8 (c.toNat * 2 ^ k) :=
    BitVec.eq_of_toNat_eq (by simp [statusBit, Nat.shiftLeft_eq])
  have hdisjoint : u &&& statusBit c k = 0#8 := by
    ext j hj
    by_cases hjk : j = k
    · rw [← hjk, BitVec.getLsbD_eq_getElem hj] at hfree
      simp [hfree]
    · simp [hjk]
  rw [← BitVec.add_eq_or_of_and_eq_zero _ _ hdisjoint, hbit]

/-- R153: a shift left leaves bit 0 free. -/
theorem rolOut_eq : rolOut v c = ⟨BitVec.ofNat 8 (2 * v.toNat + c.toNat), v.getLsbD 7⟩ := by
  rw [rolOut, or_statusBit c (by simp), BitVec.ofNat_add, ofNat_double, pow_zero, mul_one]

/-- R154: a shift right leaves bit 7 free. -/
theorem rorOut_eq : rorOut v c = ⟨BitVec.ofNat 8 (v.toNat / 2 + 128 * c.toNat), v.getLsbD 0⟩ := by
  rw [rorOut, ← ofNat_half, or_statusBit c (half_getLsbD_seven v), Nat.mul_comm 128, BitVec.ofNat_add]
  rfl

end

/-! ## The forms -/

/-- What a shift mnemonic makes of a byte and C; `none` for every other mnemonic. -/
def shiftOf : Mnemonic → Option (Byte → Bool → ShiftOut)
  | .ASL => some aslOut
  | .LSR => some lsrOut
  | .ROL => some rolOut
  | .ROR => some rorOut
  | _ => none

/-- R150: C is the bit shifted out, N and Z are the result's. -/
theorem State.putShift_eq (s : State) (o : ShiftOut) :
    s.putShift o = { s with c := o.c, n := o.r.getLsbD 7, z := decide (o.r = 0#8) } :=
  State.setNZ_eq _ _

section
variable {shift : Byte → Bool → ShiftOut} {s : State}

/-- The Accumulator form of a shift, where no device stands at the byte after it. -/
theorem implied_shiftA (hclear : s.clear [s.pc + 1#16]) :
    implied (State.shiftA shift) s = .next { past 1 s with
      a := (shift s.a s.c).r
      c := (shift s.a s.c).c
      n := (shift s.a s.c).r.getLsbD 7
      z := decide ((shift s.a s.c).r = 0#8) } := by
  rw [implied_next.mpr ⟨hclear, rfl⟩, State.shiftA, State.putShift_eq]
  rfl

/-- Every memory form of a shift is its mnemonic's, in its own mode. -/
theorem exec_shift {i : Instr} {m : MemMode} (hshift : shiftOf i.mnemonic = some shift)
    (hop : i.operand = .mem m) (s : State) :
    exec i s = modifying m (fun t v => (shift v t.c).r) (fun v t => t.putShift (shift v t.c)) s := by
  cases i with
  | aslAcc | lsrAcc | rolAcc | rorAcc => cases hop
  | aslZp | aslZpx | aslAbs | aslAbx | lsrZp | lsrZpx | lsrAbs | lsrAbx
  | rolZp | rolZpx | rolAbs | rolAbx | rorZp | rorZpx | rorAbs | rorAbx =>
    obtain rfl := Option.some.inj hshift
    obtain rfl := Operand.mem.inj hop
    rfl
  | _ => exact nomatch hshift

/-- A memory form writes C, N and Z, and the result at the effective address. -/
theorem exec_shift_endsIn {i : Instr} {mn : Mnemonic} {m : MemMode} {r : Byte} {c : Bool}
    (hop : i.operand = .mem m) (haccessible : Accessible i s) (hmn : i.mnemonic = mn)
    (hshift : shiftOf mn = some shift) (hout : shift (s.value m) s.c = ⟨r, c⟩) :
    EndsIn (exec i s) s { advanced i s with c := c, n := r.getLsbD 7, z := decide (r = 0#8) } [(s.ea m, r)] := by
  have hexec := exec_of_modifying hop (exec_shift (hmn ▸ hshift) hop s) haccessible
  simp only [State.start_c, State.write_c, advanced_c, hout] at hexec
  refine ⟨_, hexec, ?_, fun k => ?_⟩
  · rw [State.putShift_eq]
    rfl
  · rw [State.putShift_mem, State.write_read]
    rfl

end

end Sys2Proof.Machine

namespace Sys2Proof
open Machine Spec

/-- Settles O18: the Accumulator forms share one shape and the memory forms another, and each mnemonic's result is
the spec's arithmetic. -/
theorem shiftResults : Obligations.ShiftResults := by
  refine ⟨fun mn _ => encodedAs mn, fun s hclear => ⟨?_, ?_, ?_, ?_⟩, fun i s m hop haccessible =>
    ⟨fun hmn => exec_shift_endsIn hop haccessible hmn rfl (aslOut_eq ..),
      fun hmn => exec_shift_endsIn hop haccessible hmn rfl (lsrOut_eq ..),
      fun hmn => exec_shift_endsIn hop haccessible hmn rfl (rolOut_eq ..),
      fun hmn => exec_shift_endsIn hop haccessible hmn rfl (rorOut_eq ..)⟩⟩
  · exact (implied_shiftA hclear).trans (by rw [aslOut_eq])
  · exact (implied_shiftA hclear).trans (by rw [lsrOut_eq, half_getLsbD_seven])
  · exact (implied_shiftA hclear).trans (by rw [rolOut_eq])
  · exact (implied_shiftA hclear).trans (by rw [rorOut_eq])

end Sys2Proof
end

section
/-! The branches (43_branch.md R160 to R168): one shape, in which the eight differ in the flag and the value that
they look for. -/

namespace Sys2Proof.Machine
open Spec

/-- R96: the offset is added as the signed number that it stands for. -/
theorem branchTarget_eq (rel : Byte) (next : Addr) :
    branchTarget rel next = next + BitVec.ofInt 16 rel.toInt := rfl

/-- R160: to the target, or to the instruction that follows. -/
theorem branch_eq (cond : State → Bool) (rel : Byte) (s : State) :
    branch cond rel s = .next { past 2 s with
      pc := s.pc + 2#16 + if cond (s.start 2#16) then BitVec.ofInt 16 rel.toInt else 0#16 } := by
  rw [branch_next.mpr rfl, add_ite, BitVec.add_zero, ← branchTarget_eq]
  rfl

end Sys2Proof.Machine

namespace Sys2Proof
open Machine Spec

/-- Settles O19: each branch is the one shape, on its own flag, which `State.start` leaves as it was. -/
theorem branchResults : Obligations.BranchResults := by
  refine ⟨fun mn _ => encodedAs mn, fun s rel => ?_⟩
  simp only [Bool.decide_eq_true, Bool.decide_eq_false]
  exact ⟨branch_eq (! ·.c) rel s, branch_eq (·.c) rel s, branch_eq (·.z) rel s, branch_eq (·.n) rel s,
    branch_eq (! ·.z) rel s, branch_eq (! ·.n) rel s, branch_eq (! ·.v) rel s, branch_eq (·.v) rel s⟩

end Sys2Proof
end

section
/-! BRK, RTI and the flag instructions (44_system.md R180 to R182, 45_flag.md R190 to R196): what an entry stacks
and loads, which serves NMI and IRQ as well, what the return pulls, and the two one after the other. -/

namespace Sys2Proof.Spec
open Machine

/-! ## Stores in sequence -/

section
variable {ws : List (Addr × Byte)} {s t : State}

/-- R58: a further store is the latest of the writes. -/
theorem Stores.write (h : Stores s t ws) (hplatform : t.platform = s.platform) (a : Addr) (b : Byte) :
    Stores s (t.write a b) ((a, b) :: ws) := by
  intro k
  rw [State.write_read, State.kindAt_congr hplatform, h k]
  rfl

/-- R67: a push stores at the free location. -/
theorem Stores.push (h : Stores s t ws) (hplatform : t.platform = s.platform) (b : Byte) :
    Stores s (t.push b) ((stackAddr t.sp, b) :: ws) :=
  h.write hplatform _ b

end

/-- R56: no vector stands on the stack, which is page one (R55). -/
theorem IsVector.not_mem_freeSlots {vector : Addr} (h : IsVector vector) (s : State) (k : Nat) :
    vector ∉ freeSlots s k ∧ vector + 1#16 ∉ freeSlots s k := by
  have hpage {a : Addr} (ha : hiByte a ≠ 0x01#8) : a ∉ freeSlots s k := by
    intro hmem
    obtain ⟨j, -, rfl⟩ := mem_freeSlots.mp hmem
    exact ha (hiByte_stackAddr _)
  obtain rfl | rfl | rfl := h <;> exact ⟨hpage (by decide), hpage (by decide)⟩

end Sys2Proof.Spec

namespace Sys2Proof.Machine
open Spec

/-- R303: an entry stores its frame. -/
theorem State.stacked_frame (s : State) (b : Bool) : Stores s (s.stacked b) (frame s s.pc b) := by
  have hnone : Stores s s [] := fun _ => rfl
  have hframe := ((hnone.push rfl (hiByte s.pc)).push rfl (loByte s.pc)).push rfl (s.pByte b)
  simp only [State.push_sp, BitVec.sub_sub] at hframe
  exact hframe

/-! ## Reads off the stack -/

section
variable {ws : List Addr} {s t : State} {a : Addr}

/-- A read where nothing was stored. -/
theorem StoresOnlyAt.peek (h : StoresOnlyAt ws s t) (hdraws : t.draws = s.draws) (ha : a ∉ ws) :
    t.peek a = s.peek a := by
  have hkind := State.kindAt_congr h.platform a
  by_cases hunmapped : s.kindAt a = .unmapped
  case pos => rw [s.peek_unmapped a hunmapped, t.peek_unmapped a (hkind.trans hunmapped), hdraws]
  case neg => rw [s.peek_mapped a hunmapped, t.peek_mapped a (hkind ▸ hunmapped), h.read a fun _ => ha]

theorem StoresOnlyAt.drawsAt (h : StoresOnlyAt ws s t) (a : Addr) : t.drawsAt a = s.drawsAt a := by
  simp only [State.drawsAt, State.kindAt_congr h.platform]

theorem StoresOnlyAt.afterRead (h : StoresOnlyAt ws s t) (a : Addr) :
    StoresOnlyAt ws (s.afterRead a) (t.afterRead a) :=
  ⟨h.inv, h.platform, h.read⟩

/-- R68: two bytes read where nothing was stored. -/
theorem StoresOnlyAt.peek16 (h : StoresOnlyAt ws s t) (hdraws : t.draws = s.draws) (hlo : a ∉ ws)
    (hhi : a + 1#16 ∉ ws) : t.peek16 a = s.peek16 a := by
  have hdraws' : (t.afterRead a).draws = (s.afterRead a).draws := by simp [hdraws, h.drawsAt]
  rw [State.peek16, State.peekPair, h.peek hdraws hlo, (h.afterRead a).peek hdraws' hhi]
  rfl

theorem StoresOnlyAt.after16_draws (h : StoresOnlyAt ws s t) (hdraws : t.draws = s.draws) (a : Addr) :
    (t.after16 a).draws = (s.after16 a).draws := by
  simp [State.after16, State.afterPair, hdraws, h.drawsAt]

end

/-! ## The entry -/

section
variable {s t : State}

theorem State.after16_eq (s : State) (a : Addr) : s.after16 a = { s with draws := (s.after16 a).draws } := rfl

/-- R303, R318: besides its frame an entry writes SP and I. -/
theorem State.stacked_eq (s : State) (b : Bool) :
    s.stacked b = { s with mem := (s.stacked b).mem, sp := s.sp - 3#8, i := true } := by
  have hsp : (s.stacked b).sp = s.sp - 3#8 := by simp [State.stacked, State.pushAddr, BitVec.sub_sub]
  rw [← hsp]
  rfl

/-- R303, R318: an entry ends in `Spec.entered` with its frame stored. -/
theorem interrupt_entered {vector : Addr} {b : Bool} (hvector : IsVector vector)
    (h : interrupt vector b s = .next t) :
    (∃ m, t = { entered s vector with mem := m }) ∧ Stores s t (frame s s.pc b) := by
  obtain ⟨-, rfl⟩ := interrupt_next.mp h
  have hstores := s.stacked_stores b
  obtain ⟨hlo, hhi⟩ := hvector.not_mem_freeSlots s 3
  have hpc : (s.stacked b).peek16 vector = s.peek16 vector := hstores.peek16 rfl hlo hhi
  have hdraws : ((s.stacked b).after16 vector).draws = (s.after16 vector).draws := hstores.after16_draws rfl _
  refine ⟨⟨(s.stacked b).mem, ?_⟩, s.stacked_frame b⟩
  rw [hpc, State.after16_eq, hdraws, State.stacked_eq]
  rfl

/-- R180: BRK is an entry from the state at `pc0 + 2`, which differs from `s` in PC and I_prev alone, and the
entry writes both. -/
theorem exec_brk_entered (h : exec .brk s = .next t) :
    (∃ m, t = { entered s irqVector with mem := m }) ∧ Stores s t (frame s (s.pc + 2#16) true) := by
  have hbrk : execBrk s = .next t := h
  exact interrupt_entered (.inr (.inr rfl)) (State.guarding_next.mp hbrk).2

/-! ## The one-byte shape -/

/-- R84: where no device stands at the byte after it, an instruction of one byte has its result past that
byte. -/
theorem implied_past (hclear : s.clear [s.pc + 1#16]) (f : State → State) : implied f s = .next (f (past 1 s)) :=
  implied_next.mpr ⟨hclear, rfl⟩

/-! ## The return -/

theorem stackTop_three (s : State) : stackTop s 3 =
    [stackAddr (s.sp + 1#8), stackAddr (s.sp + 1#8 + 1#8), stackAddr (s.sp + 1#8 + 1#8 + 1#8)] := by
  simp [stackTop, List.range_succ, BitVec.add_assoc]

/-- R181: three pulls, of the status byte, PC low and PC high. -/
theorem exec_rti_pulls {p lo hi : Byte} (h : exec .rti s = .next t)
    (hpulls : s.peeks (stackTop s 3) = [p, lo, hi]) :
    t = { s.setP p with
      sp := s.sp + 3#8
      iPrev := p.getLsbD 2
      pc := hi ++ lo
      draws := (s.afterReads (stackTop s 3)).draws } := by
  have hrti : returnFromInterrupt (s.start 1#16) = .next t := h
  obtain ⟨-, rfl⟩ := returnFromInterrupt_next.mp hrti
  rw [stackTop_three] at hpulls ⊢
  obtain ⟨hp, hlo, hhi⟩ := by simpa [State.peeks] using hpulls
  have hpulled : (s.start 1#16).pulled = p := hp
  have hpc : ((s.start 1#16).afterPull.setP p).pulledAddr = hi ++ lo := by
    rw [← hlo, ← hhi]
    rfl
  rw [hpulled, hpc]
  simp [State.afterReads, BitVec.add_assoc]

/-! ## BRK, then RTI -/

/-- R67: after `k` pushes the top of the stack is the locations that were free, the last one first. -/
theorem stackTop_eq_reverse {k : Nat} (hsp : t.sp = s.sp - BitVec.ofNat 8 k) :
    stackTop t k = (freeSlots s k).reverse := by
  refine List.ext_getElem (by simp [stackTop, freeSlots]) fun j hj _ => ?_
  obtain ⟨d, rfl⟩ : ∃ d, k = d + (j + 1) := Nat.exists_eq_add_of_le' (by simpa [stackTop] using hj)
  have hslot : s.sp - BitVec.ofNat 8 (d + (j + 1)) + BitVec.ofNat 8 (j + 1) = s.sp - BitVec.ofNat 8 d := by
    rw [BitVec.ofNat_add, ← BitVec.sub_sub, BitVec.sub_add_cancel]
  simp [stackTop, freeSlots, hsp, hslot]

theorem freeSlots_three (s : State) :
    freeSlots s 3 = [stackAddr s.sp, stackAddr (s.sp - 1#8), stackAddr (s.sp - 2#8)] := by
  simp [freeSlots, List.range_succ]

/-- R303: where the stack is ram, the three locations hold the frame. -/
theorem overlay_frame (hram : AllRam s (freeSlots s 3)) (ret : Addr) (b : Bool) :
    (freeSlots s 3).map (fun a => overlay s (frame s ret b) a.toNat) = [hiByte ret, loByte ret, s.pByte b] := by
  have hne1 : s.sp ≠ s.sp - 1#8 := by bv_omega
  have hne2 : s.sp ≠ s.sp - 2#8 := by bv_omega
  rw [freeSlots_three] at hram ⊢
  obtain ⟨h0, h1, h2⟩ := by simpa [AllRam] using hram
  simp [frame, overlay, BitVec.toNat_inj, h0, h1, h2, hne1, hne2]

/-- R55, R67: where the stack is ram, the next three pulls after an entry give its frame back and draw
nothing. -/
theorem frame_pulls {ret : Addr} {b : Bool} (hframe : Stores s t (frame s ret b))
    (hplatform : t.platform = s.platform) (hsp : t.sp = s.sp - 3#8) (hram : AllRam s (freeSlots s 3)) :
    t.peeks (stackTop t 3) = [s.pByte b, loByte ret, hiByte ret] ∧ t.afterReads (stackTop t 3) = t := by
  rw [stackTop_eq_reverse hsp]
  have hstored : AllStored t (freeSlots s 3).reverse := fun a ha =>
    .inl ((State.kindAt_congr hplatform a).trans (hram a (List.mem_reverse.mp ha)))
  obtain ⟨hpeeks, hafter⟩ := State.reads_stored hstored
  refine ⟨?_, hafter⟩
  calc t.peeks (freeSlots s 3).reverse
      = ((freeSlots s 3).map fun a => Memory.read t.mem a.toNat).reverse := by rw [hpeeks, List.map_reverse]
    _ = [hiByte ret, loByte ret, s.pByte b].reverse := by simp only [hframe _, overlay_frame hram]
    _ = _ := rfl

end

end Sys2Proof.Machine

namespace Sys2Proof
open Machine Spec

/-- Settles O20: with no device touched BRK completes, and it is an entry. -/
theorem breakResult : Obligations.BreakResult := by
  refine ⟨encodedAs .BRK, fun s haccessible => ?_⟩
  obtain ⟨t, ht⟩ := (exec_accesses .brk s).completes_iff.mpr haccessible
  obtain ⟨⟨m, rfl⟩, hframe⟩ := exec_brk_entered ht
  exact ⟨_, ht, rfl, hframe⟩

/-- Settles O29: the entry's frame, pulled back, is the status byte of `s`, from which its flags come back
(`State.pByte_bit0` and the like), and the address `pc0 + 2`. -/
theorem breakThenReturn : Obligations.BreakThenReturn := by
  intro s t u hram hvector hbrk hrti
  obtain ⟨⟨m, rfl⟩, hframe⟩ := exec_brk_entered hbrk
  obtain ⟨hpulls, hafter⟩ := frame_pulls hframe rfl rfl hram
  have hdraws : s.after16 irqVector = s := (State.reads_stored hvector).2
  rw [exec_rti_pulls hrti hpulls, hafter, hi_append_lo]
  simp [entered, hdraws]

/-- Settles O21: with no device touched RTI completes, and it is three pulls. -/
theorem returnFromInterruptResult : Obligations.ReturnFromInterruptResult := by
  refine ⟨encodedAs .RTI, fun s p lo hi haccessible hpulls => ?_⟩
  obtain ⟨t, ht⟩ := (exec_accesses .rti s).completes_iff.mpr haccessible
  rw [ht, exec_rti_pulls ht hpulls]
  rfl

/-- Settles O22: the eight share the one-byte shape, and differ in the one flag written past it. -/
theorem flagInstructionResults : Obligations.FlagInstructionResults := by
  refine ⟨fun mn _ => encodedAs mn, fun s hclear => ?_⟩
  have hpast := implied_past hclear
  exact ⟨hpast id, hpast ({ · with c := false }), hpast ({ · with d := false }), hpast ({ · with i := false }),
    hpast ({ · with v := false }), hpast ({ · with c := true }), hpast ({ · with d := true }),
    hpast ({ · with i := true })⟩

end Sys2Proof
end

section
/-! Increment and decrement (46_incdec.md R200 to R205): memory, X and Y are stepped by the same two functions of
a byte, and N and Z follow the result. -/

namespace Sys2Proof.Machine
open Spec

/-! ## What a step gives -/

section
variable (v : Byte)

/-- R203 to R205: up by one, modulo 256. -/
theorem incByte_eq : incByte v = BitVec.ofNat 8 (v.toNat + 1) := by
  rw [incByte, BitVec.ofNat_add, BitVec.ofNat_toNat, BitVec.setWidth_eq]

/-- R200 to R202: down by one is up by 255, modulo 256. -/
theorem decByte_eq : decByte v = BitVec.ofNat 8 (v.toNat + 255) := by
  rw [decByte, BitVec.ofNat_add, BitVec.ofNat_toNat, BitVec.setWidth_eq, BitVec.sub_eq_add_neg]
  rfl

end

/-! ## The register forms -/

/-- N and Z are of the byte that X takes. -/
theorem State.ldx_eq (m : Byte) (s : State) :
    State.ldx m s = { s with x := m, n := m.getLsbD 7, z := decide (m = 0#8) } :=
  State.setNZ_eq _ _

/-- N and Z are of the byte that Y takes. -/
theorem State.ldy_eq (m : Byte) (s : State) :
    State.ldy m s = { s with y := m, n := m.getLsbD 7, z := decide (m = 0#8) } :=
  State.setNZ_eq _ _

section
variable {s : State} (hclear : s.clear [s.pc + 1#16]) {step : Byte → Byte} {r : Byte}
include hclear

/-- R201, R204: X stepped, where no device stands at the byte after the instruction. -/
theorem implied_stepX (hr : step s.x = r) :
    implied (fun t => t.ldx (step t.x)) s =
      .next { past 1 s with x := r, n := r.getLsbD 7, z := decide (r = 0#8) } := by
  subst hr
  rw [implied_past hclear, State.ldx_eq]
  rfl

/-- R202, R205: Y stepped, where no device stands at the byte after the instruction. -/
theorem implied_stepY (hr : step s.y = r) :
    implied (fun t => t.ldy (step t.y)) s =
      .next { past 1 s with y := r, n := r.getLsbD 7, z := decide (r = 0#8) } := by
  subst hr
  rw [implied_past hclear, State.ldy_eq]
  rfl

end

/-! ## The memory forms -/

/-- What DEC and INC make of a byte; `none` for every other mnemonic. -/
def memoryStepOf : Mnemonic → Option (Byte → Byte)
  | .DEC => some decByte
  | .INC => some incByte
  | _ => none

section
variable {step : Byte → Byte} {i : Instr} {m : MemMode}

/-- Each of the eight forms is its mnemonic's, in its own mode. -/
theorem exec_memoryStep (hstep : memoryStepOf i.mnemonic = some step) (hop : i.operand = .mem m) (s : State) :
    exec i s = modifying m (fun _ v => step v) (fun v t => t.setNZ (step v)) s := by
  cases i with
  | decZp | decZpx | decAbs | decAbx | incZp | incZpx | incAbs | incAbx =>
    obtain rfl := Option.some.inj hstep
    obtain rfl := Operand.mem.inj hop
    rfl
  | _ => exact nomatch hstep

/-- R200, R203: a form writes N and Z, and the stepped byte at the effective address. -/
theorem exec_memoryStep_endsIn {s : State} {mn : Mnemonic} {r : Byte} (hop : i.operand = .mem m)
    (haccessible : Accessible i s) (hmn : i.mnemonic = mn) (hstep : memoryStepOf mn = some step)
    (hr : step (s.value m) = r) :
    EndsIn (exec i s) s { advanced i s with n := r.getLsbD 7, z := decide (r = 0#8) } [(s.ea m, r)] := by
  subst hr
  refine ⟨_, exec_of_modifying hop (exec_memoryStep (hmn ▸ hstep) hop s) haccessible, ?_, fun k => ?_⟩
  · rw [State.setNZ_eq]
    rfl
  · rw [State.setNZ_mem, State.write_read]
    rfl

end

end Sys2Proof.Machine

namespace Sys2Proof
open Machine Spec

/-- Settles O24: the memory forms of DEC and INC share one shape, and differ in the step. -/
theorem memoryStepResults : Obligations.MemoryStepResults :=
  ⟨encodedAs .DEC, encodedAs .INC, fun _ _ _ hop haccessible =>
    ⟨fun hmn => exec_memoryStep_endsIn hop haccessible hmn rfl (decByte_eq _),
      fun hmn => exec_memoryStep_endsIn hop haccessible hmn rfl (incByte_eq _)⟩⟩

/-- Settles O23: the four differ in the register and the step. -/
theorem indexStepResults : Obligations.IndexStepResults :=
  ⟨fun mn _ => encodedAs mn, fun _ hclear =>
    ⟨implied_stepX hclear (decByte_eq _), implied_stepY hclear (decByte_eq _),
      implied_stepX hclear (incByte_eq _), implied_stepY hclear (incByte_eq _)⟩⟩

end Sys2Proof
end

section
/-! The jumps, the call and the return from it (47_jump.md R210 to R212), the two one after the other, and the JMP to
its own address, at which a run ends (92_eei_decisions.md D23). -/

namespace Sys2Proof.Machine
open Spec

/-! ## The call -/

/-- What a call stores: the two bytes of the return address `ret` (R211). -/
def callFrame (s : State) (ret : Addr) : List (Addr × Byte) :=
  [(stackAddr (s.sp - 1#8), loByte ret), (stackAddr s.sp, hiByte ret)]

section
variable {s t : State} {addr : Addr}

/-- R67: two pushes store an address, its high byte first. -/
theorem State.pushAddr_frame (s : State) (a : Addr) : Stores s (s.pushAddr a) (callFrame s a) := by
  have hnone : Stores s s [] := fun _ => rfl
  exact (hnone.push rfl (hiByte a)).push rfl (loByte a)

/-- R67: besides the two bytes they write SP. -/
theorem State.pushAddr_eq (s : State) (a : Addr) :
    s.pushAddr a = { s with mem := (s.pushAddr a).mem, sp := s.sp - 2#8 } := by
  have hsp : (s.pushAddr a).sp = s.sp - 2#8 := by simp [State.pushAddr, BitVec.sub_sub]
  rw [← hsp]
  rfl

/-- R211: JSR stacks the address of its own last byte and jumps. -/
theorem exec_jsr_stacks (h : exec (.jsr addr) s = .next t) :
    (∃ m, t = { past 3 s with pc := addr, sp := s.sp - 2#8, mem := m }) ∧
      Stores s t (callFrame s (s.pc + 2#16)) := by
  have hjsr : execJsr addr s = .next t := h
  obtain ⟨-, rfl⟩ := State.touching_next.mp hjsr
  refine ⟨⟨((s.start 3#16).pushAddr (s.pc + 2#16)).mem, ?_⟩, (s.start 3#16).pushAddr_frame (s.pc + 2#16)⟩
  rw [State.pushAddr_eq]
  rfl

/-! ## The return -/

theorem stackTop_two (s : State) : stackTop s 2 = [stackAddr (s.sp + 1#8), stackAddr (s.sp + 1#8 + 1#8)] := by
  simp [stackTop, List.range_succ, BitVec.add_assoc]

/-- R212: two pulls, of PC low and PC high, and PC goes to the address after the one pulled. -/
theorem exec_rts_pulls {lo hi : Byte} (h : exec .rts s = .next t) (hpulls : s.peeks (stackTop s 2) = [lo, hi]) :
    t = { past 1 s with
      sp := s.sp + 2#8
      pc := (hi ++ lo) + 1#16
      draws := (s.afterReads (stackTop s 2)).draws } := by
  have hrts : execRts s = .next t := h
  obtain ⟨-, rfl⟩ := State.touching_next.mp hrts
  rw [stackTop_two] at hpulls ⊢
  obtain ⟨hlo, hhi⟩ := by simpa [State.peeks] using hpulls
  have hpc : (s.start 1#16).pulledAddr = hi ++ lo := by
    rw [← hlo, ← hhi]
    rfl
  rw [hpc]
  simp [State.afterReads, BitVec.add_assoc, past]

/-! ## The call, then the return -/

theorem freeSlots_two (s : State) : freeSlots s 2 = [stackAddr s.sp, stackAddr (s.sp - 1#8)] := by
  simp [freeSlots, List.range_succ]

/-- R211: where the stack is ram, the two locations hold the return address. -/
theorem overlay_callFrame (hram : AllRam s (freeSlots s 2)) (ret : Addr) :
    (freeSlots s 2).map (fun a => overlay s (callFrame s ret) a.toNat) = [hiByte ret, loByte ret] := by
  have hne : s.sp ≠ s.sp - 1#8 := by bv_omega
  rw [freeSlots_two] at hram ⊢
  obtain ⟨h0, h1⟩ := by simpa [AllRam] using hram
  simp [callFrame, overlay, BitVec.toNat_inj, h0, h1, hne]

/-- R55, R67: where `k` locations of the stack are ram and have been pushed to, the next `k` pulls give the stored
bytes back, the last one first, and draw nothing. -/
theorem pulls_of_stores {k : Nat} {ws : List (Addr × Byte)} (hstores : Stores s t ws)
    (hplatform : t.platform = s.platform) (hsp : t.sp = s.sp - BitVec.ofNat 8 k) (hram : AllRam s (freeSlots s k)) :
    t.peeks (stackTop t k) = ((freeSlots s k).map fun a => overlay s ws a.toNat).reverse ∧
      t.afterReads (stackTop t k) = t := by
  rw [stackTop_eq_reverse hsp]
  have hstored : AllStored t (freeSlots s k).reverse := fun a ha =>
    .inl ((State.kindAt_congr hplatform a).trans (hram a (List.mem_reverse.mp ha)))
  obtain ⟨hpeeks, hafter⟩ := State.reads_stored hstored
  exact ⟨by simp only [hpeeks, List.map_reverse, hstores _], hafter⟩

/-! ## The jumps -/

/-- R210, R95: JMP indirect goes to the address at its pointer, whose second byte comes from the same page. -/
theorem exec_jmpInd {lo hi : Byte} (haccessible : Accessible (.jmpInd addr) s)
    (hpointer : s.peeks [addr, indirectHigh addr] = [lo, hi]) :
    exec (.jmpInd addr) s =
      .next { past 3 s with pc := hi ++ lo, draws := (s.afterReads [addr, indirectHigh addr]).draws } := by
  have hpc : (s.start 3#16).peekPair addr (indirectHigh addr) = hi ++ lo := State.peekPair_of_peeks hpointer
  calc exec (.jmpInd addr) s = execJmpInd addr s := rfl
    _ = .next _ := State.touching_clear haccessible _
    _ = _ := by rw [hpc]; rfl

/-! ## The JMP to its own address -/

/-- 92 D23: the three bytes at PC are those of the JMP, and each is held in ram or rom. -/
theorem atSelfJump_iff :
    s.atSelfJump = true ↔ AllStored s [s.pc, s.pc + 1#16, s.pc + 2#16] ∧
      s.peeks [s.pc, s.pc + 1#16, s.pc + 2#16] = encode (.jmpAbs s.pc) := by
  simp only [State.atSelfJump, AllStored, Bool.and_eq_true, List.all_eq_true, Bool.or_eq_true, beq_iff_eq]

/-- Where ram or rom stands there is no device. -/
theorem clear_of_allStored {as : List Addr} (h : AllStored s as) : s.clear as := fun a ha => by
  obtain hram | hrom := h a ha
  · simp [hram]
  · simp [hrom]

/-- Such a JMP is fetched, and changes nothing on the way. -/
theorem fetch_selfJump (h : s.atSelfJump = true) : fetch s = .next (.jmpAbs s.pc, s) := by
  obtain ⟨hstored, hbytes⟩ := atSelfJump_iff.mp h
  have hfetch : fetch s = .next (.jmpAbs s.pc, s.afterReads [s.pc, s.pc + 1#16, s.pc + 2#16]) :=
    fetch_encode (clear_of_allStored hstored) hbytes
  rwa [(State.reads_stored hstored).2] at hfetch

/-- R210: with nothing signalled and nothing pending, the JMP leaves PC where it is and writes I_prev. -/
theorem step_selfJump (h : s.atSelfJump = true) (hinputs : s.inputs = []) (hpending : s.nmiPending = false) :
    step s = .next { s with iPrev := s.i } := by
  have hquiet : s.quiet := ⟨by simp [State.signals, hinputs], hpending⟩
  have hsampled : s.sampled = s := by
    rw [State.sampled, hinputs, List.tail_nil, ← hinputs]
  have hexecute : boundary s = .execute s := by
    rw [boundary_quiet hquiet, hsampled]
  exact step_of_fetch hexecute (fetch_selfJump h)

end

end Sys2Proof.Machine

namespace Sys2Proof
open Machine Spec

/-- Settles O26: with no device touched JSR completes, and it stacks the address and jumps. -/
theorem callResult : Obligations.CallResult := by
  refine ⟨encodedAs .JSR, fun s addr haccessible => ?_⟩
  obtain ⟨t, ht⟩ := (exec_accesses (.jsr addr) s).completes_iff.mpr haccessible
  obtain ⟨⟨m, rfl⟩, hframe⟩ := exec_jsr_stacks ht
  exact ⟨_, ht, rfl, hframe⟩

/-- Settles O28: the two pulls give back the address of the last byte of JSR, and RTS adds the 1 that is
missing. -/
theorem callThenReturn : Obligations.CallThenReturn := by
  intro s t u addr hram hjsr hrts
  obtain ⟨⟨m, rfl⟩, hframe⟩ := exec_jsr_stacks hjsr
  obtain ⟨hpulls, hafter⟩ := pulls_of_stores (k := 2) hframe rfl rfl hram
  rw [overlay_callFrame hram] at hpulls
  rw [exec_rts_pulls hrts hpulls, hafter, hi_append_lo]
  simp [past, BitVec.add_assoc]

/-- Settles O59: from the first state, and from the one that differs from it in I_prev, the step comes to the
latter. -/
theorem selfJumpLoops : Obligations.SelfJumpLoops := by
  intro s hjump hinputs hpending
  have hfirst : step s = .next { s with iPrev := s.i } := step_selfJump hjump hinputs hpending
  have hagain : step { s with iPrev := s.i } = .next { s with iPrev := s.i } :=
    step_selfJump (s := { s with iPrev := s.i }) hjump hinputs hpending
  refine ⟨fun t hreaches => ?_, hfirst⟩
  induction hreaches with
  | refl => exact .inl rfl
  | tail _ hstep ih =>
    obtain rfl | rfl := ih
    · exact .inr (Host.Outcome.next.inj (hstep.symm.trans hfirst))
    · exact .inr (Host.Outcome.next.inj (hstep.symm.trans hagain))

/-- Settles O25: JMP absolute computes, and JMP indirect completes where its pointer is no device's. -/
theorem jumpResults : Obligations.JumpResults :=
  ⟨encodedAs .JMP, fun _ _ => ⟨rfl, fun _ _ haccessible hpointer => exec_jmpInd haccessible hpointer⟩⟩

/-- Settles O27: with no device touched RTS completes, and it is two pulls. -/
theorem subroutineReturnResult : Obligations.SubroutineReturnResult := by
  refine ⟨encodedAs .RTS, fun s lo hi haccessible hpulls => ?_⟩
  obtain ⟨t, ht⟩ := (exec_accesses .rts s).completes_iff.mpr haccessible
  rw [ht, exec_rts_pulls ht hpulls]

end Sys2Proof
end

section
/-! Loads and stores (48_load_store.md R220 to R225): a load is its register's result function over the reading
shape, a store is one shape for the three registers. -/

namespace Sys2Proof.Machine
open Spec

/-- R220: N and Z are of the byte that A takes. -/
theorem State.lda_eq (m : Byte) (s : State) :
    State.lda m s = { s with a := m, n := m.getLsbD 7, z := decide (m = 0#8) } :=
  State.setNZ_eq _ _

/-- The register that a mnemonic stores; `none` for every other mnemonic. -/
def storedRegister : Mnemonic → Option (State → Byte)
  | .STA => some State.a
  | .STX => some State.x
  | .STY => some State.y
  | _ => none

section
variable {i : Instr} {m : MemMode} {reg : State → Byte} {s : State}

/-- R223 to R225: each of the thirteen forms stores its mnemonic's register, in its own mode. -/
theorem exec_store (hreg : storedRegister i.mnemonic = some reg) (hop : i.operand = .mem m) (s : State) :
    exec i s = storing m reg s := by
  cases i with
  | staZp | staZpx | staAbs | staAbx | staAby | staIzx | staIzy
  | stxZp | stxZpy | stxAbs | styZp | styZpx | styAbs =>
    obtain rfl := Option.some.inj hreg
    obtain rfl := Operand.mem.inj hop
    rfl
  | _ => exact nomatch hreg

/-- Past its bytes, its pointer read, a memory form stands in `Spec.advanced` but for the operand's draw. -/
theorem afterPointer_eq_advanced (hop : i.operand = .mem m) :
    (s.start (modeLen m)).afterPointer m = { advanced i s with draws := (s.afterPointer m).draws } := by
  rw [State.start_afterPointer, ← afterValue_eq_advanced hop, State.start_afterValue]

/-- The register at the start of the instruction, `b`, is stored at the effective address. -/
theorem exec_store_endsIn {mn : Mnemonic} {b : Byte} (hop : i.operand = .mem m) (haccessible : Accessible i s)
    (hmn : i.mnemonic = mn) (hreg : storedRegister mn = some reg) (hb : reg (s.start (modeLen m)) = b) :
    EndsIn (exec i s) s { advanced i s with draws := (s.afterPointer m).draws } [(s.ea m, b)] := by
  obtain ⟨t, ht⟩ := (exec_accesses i s).completes_iff.mpr haccessible
  obtain ⟨-, rfl⟩ := storing_next.mp (exec_store (hmn ▸ hreg) hop s ▸ ht)
  rw [ht, hb, afterPointer_eq_advanced hop]
  have hnone : Stores s { advanced i s with draws := (s.afterPointer m).draws } [] := fun _ => rfl
  exact ⟨_, rfl, rfl, hnone.write rfl _ _⟩

end

end Sys2Proof.Machine

namespace Sys2Proof
open Machine Spec

/-- Settles O30: the forms of a mnemonic share its result function (`exec_of_accessible`), and the three result
functions differ in the register alone. -/
theorem loadResults : Obligations.LoadResults := by
  refine ⟨encodedAs .LDA, encodedAs .LDX, encodedAs .LDY, fun i s haccessible =>
    ⟨fun hmn => ?_, fun hmn => ?_, fun hmn => ?_⟩⟩
  · rw [exec_of_accessible hmn rfl haccessible, State.lda_eq]
  · rw [exec_of_accessible hmn rfl haccessible, State.ldx_eq]
  · rw [exec_of_accessible hmn rfl haccessible, State.ldy_eq]

/-- Settles O31: the thirteen forms share one shape, and differ in the register and the mode. -/
theorem storeResults : Obligations.StoreResults :=
  ⟨encodedAs .STA, encodedAs .STX, encodedAs .STY, fun _ _ _ hop haccessible =>
    ⟨fun hmn => exec_store_endsIn hop haccessible hmn rfl rfl,
      fun hmn => exec_store_endsIn hop haccessible hmn rfl rfl,
      fun hmn => exec_store_endsIn hop haccessible hmn rfl rfl⟩⟩

end Sys2Proof
end

section
/-! The stack instructions and the transfers (49_stack_transfer.md R230 to R239). -/

namespace Sys2Proof.Machine
open Spec

section
variable {s : State}

/-- R230, R231: with no device touched, what a one-byte instruction pushes stands at the free location, and SP
alone is written besides. -/
theorem push_endsIn (hclear : s.clear [s.pc + 1#16, stackAddr s.sp]) (b : Byte) :
    EndsIn ((s.start 1#16).touching ((s.pc + 1#16) :: (s.start 1#16).pushAddrs 1) ((s.start 1#16).push b)) s
      { past 1 s with sp := s.sp - 1#8 } [(stackAddr s.sp, b)] := by
  have hguard : (s.start 1#16).clear ((s.pc + 1#16) :: (s.start 1#16).pushAddrs 1) := by
    simpa [State.pushAddrs] using hclear
  have hnone : Stores s (s.start 1#16) [] := fun _ => rfl
  exact ⟨_, State.touching_clear hguard _, rfl, hnone.push rfl b⟩

/-- R232, R233: one pull, of the byte `b`, after the byte at the free location has been read and discarded. -/
theorem pull_next {b : Byte} {t : State} (f : Byte → State → State) (hpull : s.peeks (stackTop s 1) = [b])
    (hclear : s.clear ((s.pc + 1#16) :: stackAddr s.sp :: stackTop s 1))
    (ht : f b { past 1 s with sp := s.sp + 1#8, draws := (s.afterReads (stackTop s 1)).draws } = t) :
    (s.start 1#16).touching ((s.pc + 1#16) :: (s.start 1#16).pullSpan 1)
      (f (s.start 1#16).pulled (s.start 1#16).afterPull) = .next t := by
  have hpulled : (s.start 1#16).pulled = b := (List.cons.inj hpull).1
  refine State.touching_next.mpr ⟨hclear, ?_⟩
  rw [hpulled, ← ht]
  rfl

end

end Sys2Proof.Machine

namespace Sys2Proof
open Machine Spec

/-- Settles O34: the two differ in the byte that they push. -/
theorem pushResults : Obligations.PushResults :=
  ⟨encodedAs .PHA, encodedAs .PHP, fun s hclear =>
    ⟨push_endsIn hclear s.a, push_endsIn hclear (s.pByte true)⟩⟩

/-- Settles O35: the two pull alike, and differ in what they do with the byte. -/
theorem pullResults : Obligations.PullResults :=
  ⟨encodedAs .PLA, encodedAs .PLP, fun _ b hclear hpull =>
    ⟨pull_next State.lda hpull hclear (State.lda_eq b _), pull_next (fun p t => t.setP p) hpull hclear rfl⟩⟩

/-- Settles O36: the six share the one-byte shape; five of them load a register, with N and Z. -/
theorem transferResults : Obligations.TransferResults := by
  refine ⟨fun mn _ => encodedAs mn, fun s hclear => ?_⟩
  have hpast (f : State → State) {t : State} (ht : f (past 1 s) = t) : implied f s = .next t :=
    ht ▸ implied_past hclear f
  exact ⟨hpast (fun t => t.ldx t.a) (State.ldx_eq ..), hpast (fun t => t.ldy t.a) (State.ldy_eq ..),
    hpast (fun t => t.ldx t.sp) (State.ldx_eq ..), hpast (fun t => t.lda t.x) (State.lda_eq ..),
    hpast (fun t => { t with sp := t.x }) rfl, hpast (fun t => t.lda t.y) (State.lda_eq ..)⟩

end Sys2Proof
end

section
/-! The boundary's events (60_exceptions.md R303 to R306, R317, R318, 70_reset_and_hazards.md R340): each is the
common entry from the state that the boundary hands it, or the reset sequence, and with no device touched each
completes. -/

namespace Sys2Proof.Machine
open Spec

section
variable {s : State}

/-! ## The entry -/

/-- R303: with no device touched the common entry completes. -/
theorem interrupt_endsIn {vector : Addr} {b : Bool} (hvector : IsVector vector)
    (hclear : s.clear (entrySpace s vector)) :
    EndsIn (interrupt vector b s) s (entered s vector) (frame s s.pc b) := by
  obtain ⟨t, ht⟩ := (interrupt_accesses (s := s) rfl rfl rfl).completes_iff.mpr hclear
  obtain ⟨⟨m, rfl⟩, hframe⟩ := interrupt_entered hvector ht
  exact ⟨_, ht, rfl, hframe⟩

/-- R305: so does the NMI, with B clear and no NMI pending any more. -/
theorem takeNmi_endsIn (hclear : s.clear (entrySpace s nmiVector)) :
    EndsIn (takeNmi s) s { entered s nmiVector with nmiPending := false } (frame s s.pc false) :=
  interrupt_endsIn (s := { s with nmiPending := false }) (.inl rfl) hclear

/-- R304: so does the IRQ, with B clear. -/
theorem takeIrq_endsIn (hclear : s.clear (entrySpace s irqVector)) :
    EndsIn (takeIrq s) s (entered s irqVector) (frame s s.pc false) :=
  interrupt_endsIn (.inr (.inr rfl)) hclear

/-- R180: so does BRK. -/
theorem exec_brk_endsIn (haccessible : Accessible .brk s) :
    EndsIn (exec .brk s) s (entered s irqVector) (frame s (s.pc + 2#16) true) := by
  obtain ⟨t, ht⟩ := (exec_accesses .brk s).completes_iff.mpr haccessible
  obtain ⟨⟨m, rfl⟩, hframe⟩ := exec_brk_entered ht
  exact ⟨_, ht, rfl, hframe⟩

/-- R306 (c): so does a captured BRK, BRK's frame through the NMI vector, once the op-code has been read. -/
theorem captureBrk_endsIn (hnext : s.clear [s.pc + 1#16]) (hclear : s.clear (entrySpace s nmiVector)) :
    EndsIn (captureBrk s) s { entered (s.afterRead s.pc) nmiVector with nmiPending := false }
      (frame s (s.pc + 2#16) true) := by
  rw [captureBrk, State.guarding_clear s hnext]
  exact interrupt_endsIn (s := { s.afterRead s.pc with pc := s.pc + 2#16, nmiPending := false }) (.inl rfl) hclear

/-- A BRK at PC is fetched by one read. -/
theorem fetch_brk (hpc : s.kindAt s.pc ≠ .device) (hop : s.peek s.pc = 0x00#8) :
    fetch s = .next (.brk, s.afterRead s.pc) :=
  fetch_encode (i := .brk) ((State.clear_cons ..).mpr ⟨hpc, State.clear_nil s⟩) (congrArg ([·]) hop)

/-- R304, R317: an IRQ that the mask does not allow leaves nothing to take. -/
theorem boundary_masked (hreset : s.signals.reset = false) (hnmi : s.signals.nmi = false)
    (hpending : s.nmiPending = false) (hi : s.i = true) (hiPrev : s.iPrev = true) :
    boundary s = .execute s.sampled := by
  have hallowed : s.irqAllowed = false := by simp [State.irqAllowed, hi, hiPrev]
  simp [boundary, hreset, hnmi, hpending, hallowed]

/-- R305: an NMI pending, or an edge where no BRK stands at PC, is taken. -/
theorem boundary_takeNmi (hreset : s.signals.reset = false)
    (hnmi : s.nmiPending = true ∨ s.signals.nmi = true ∧ s.peek s.pc ≠ 0x00#8) :
    boundary s = .taken (takeNmi s.sampled) := by
  cases hpending : s.nmiPending with
  | true => exact boundary_nmiPending hreset hpending
  | false =>
    obtain ⟨hedge, hop⟩ := hnmi.resolve_left (by simp [hpending])
    exact (boundary_nmiEdge hreset hpending hedge).trans (nmiEdge_of_not_brk (.inr hop))

/-! ## What every event keeps -/

/-- From `s` to `t` the flags but I, and A, X and Y, stay as they are (R303, R318, R340). -/
def KeepsFlagsAXY (s t : State) : Prop :=
  t.d = s.d ∧ t.n = s.n ∧ t.v = s.v ∧ t.z = s.z ∧ t.c = s.c ∧ t.a = s.a ∧ t.x = s.x ∧ t.y = s.y

variable {t : State}

/-- The footprint of an entry holds none of them. -/
theorem Keeps.flagsAXY (h : Keeps { i := true, sp := true, iPrev := true } s t) : KeepsFlagsAXY s t :=
  ⟨h.d rfl, h.n rfl, h.v rfl, h.z rfl, h.c rfl, h.a rfl, h.x rfl, h.y rfl⟩

theorem captureBrk_keeps (h : captureBrk s = .next t) : KeepsFlagsAXY s t := by
  obtain ⟨-, hentry⟩ := State.guarding_next.mp h
  exact (interrupt_keeps hentry).flagsAXY

theorem resetSequence_keeps (h : resetSequence s = .next t) : KeepsFlagsAXY s t := by
  obtain ⟨-, rfl⟩ := resetSequence_next.mp h
  exact ⟨rfl, rfl, rfl, rfl, rfl, rfl, rfl, rfl⟩

end

end Sys2Proof.Machine

namespace Sys2Proof
open Machine Spec

/-- Settles O38: with no device touched the entry completes, and it is `Spec.entered` with its frame stored. -/
theorem interruptEntry : Obligations.InterruptEntry :=
  fun _ _ _ hvector hclear => interrupt_endsIn hvector hclear

/-- Settles O40: the boundary takes the NMI, and the entry completes. -/
theorem nmiIsTaken : Obligations.NmiIsTaken := by
  intro s hreset hclear hnmi
  rw [step_of_taken (boundary_takeNmi hreset (hnmi.imp_right fun ⟨hedge, _, hop⟩ => ⟨hedge, hop⟩))]
  exact takeNmi_endsIn (s := s.sampled) hclear

/-- Settles O41: the choice selects one of three branches of the boundary, of which the second fetches and runs
the BRK. -/
theorem nmiMeetsBreak : Obligations.NmiMeetsBreak := by
  intro s hreset hpending hnmi hpc hop hclear haccessible s1 s2
  have hedge := boundary_nmiEdge hreset hpending hnmi
  obtain htaken | hexecute | hcaptured := nmiEdge_of_brk (s := s.sampled) hpc hop
  · rw [step_of_taken (hedge.trans htaken)]
    exact .inl (takeNmi_endsIn (s := s1) hclear)
  · rw [step_of_fetch (hedge.trans hexecute) (fetch_brk hpc hop)]
    exact .inr (.inl (exec_brk_endsIn (s := { s2 with nmiPending := true }) haccessible))
  · rw [step_of_taken (hedge.trans hcaptured)]
    have hnext : s.clear [s.pc + 1#16] := fun a ha => haccessible a (List.mem_append_left _ ha)
    exact .inr (.inr (captureBrk_endsIn (s := s1) hnext hclear))

/-- Settles O42: the choice selects the entry or the next instruction. -/
theorem irqIsTakenOrDeferred : Obligations.IrqIsTakenOrDeferred := by
  intro s hsignals hpending hmask hclear s1
  have hirq := boundary_irq hsignals hpending hmask
  obtain htaken | hexecute := irqRequest_cases s.sampled
  · rw [step_of_taken (hirq.trans htaken)]
    exact .inl (takeIrq_endsIn (s := s1) hclear)
  · exact .inr (step_of_execute (hirq.trans hexecute))

/-- Settles O43: the boundary executes, and makes no choice. -/
theorem maskedIrqIsNotTaken : Obligations.MaskedIrqIsNotTaken :=
  fun _ hreset hnmi hpending hi hiPrev => step_of_execute (boundary_masked hreset hnmi hpending hi hiPrev)

/-- Settles O39: the boundary takes the reset, and with no device touched its sequence completes. -/
theorem resetAtBoundary : Obligations.ResetAtBoundary := by
  intro s hreset hclear
  rw [step_of_taken (boundary_reset hreset)]
  exact resetSequence_next.mpr ⟨hclear, rfl⟩

/-- Settles O45: four of the five are the common entry, whose footprint is SP, I and I_prev; RTI loads D from the
byte that it pulls first. -/
theorem entryKeepsFlagsAndRegisters : Obligations.EntryKeepsFlagsAndRegisters := by
  refine ⟨fun s t r hr hnext => ?_, fun s t hrti => ?_⟩
  · subst hnext
    simp only [List.mem_cons, List.not_mem_nil, or_false] at hr
    obtain hbrk | hirq | hnmi | hcapture | hreset := hr
    · exact (execBrk_keeps hbrk.symm).flagsAXY
    · exact (interrupt_keeps hirq.symm).flagsAXY
    · exact (interrupt_keeps hnmi.symm).flagsAXY
    · exact captureBrk_keeps hcapture.symm
    · exact resetSequence_keeps hreset.symm
  · have hreturn : returnFromInterrupt (s.start 1#16) = .next t := hrti
    obtain ⟨-, rfl⟩ := returnFromInterrupt_next.mp hreturn
    rfl

end Sys2Proof
end

section
/-! Decimal arithmetic under the conservative `DecimalModel` (40_arithmetic.md "Decimal mode", 92_eei_decisions.md
D11, 93_implementation_defined.md U2). -/

namespace Sys2Proof.Machine
open Spec

/-- `s` on a platform with `model` as its `DecimalModel` (00_scope.md R5). -/
def State.withDecimal (s : State) (model : DecimalModel) : State :=
  { s with platform := { s.platform with decimal := model } }

/-- No address mode reads the `DecimalModel`. -/
theorem operand_withDecimal (i : Instr) (s : State) (model : DecimalModel) :
    operand i (s.withDecimal model) = operand i s := by
  unfold operand
  split
  case h_1 => rfl
  case h_2 m _ => cases m <;> rfl
  case h_3 => rfl

/-- Under the conservative reading a decimal result is drawn but for A and C of two-digit operands. -/
theorem State.putDecimal_conservative {s : State} {m : Byte} (h : s.platform.decimal = .conservative)
    (r : AluOut) : s.putDecimal m r = s.putAluDrawn (validBcd s.a && validBcd m) r := by
  simp [State.putDecimal, h]

/-- R126, R127: with D set the forms of ADC share an algorithm, and so do those of SBC; the platform says what
becomes of its outputs. -/
theorem exec_decimal {i : Instr} (hmn : i.mnemonic = .ADC ∨ i.mnemonic = .SBC) :
    ∃ algorithm : Byte → Byte → Bool → AluOut, ∀ s : State, s.d = true →
      exec i s = s.touching (touched i s)
        ((advanced i s).putDecimal (operand i s) (algorithm s.a (operand i s) s.c)) := by
  obtain hadc | hsbc := hmn
  · refine ⟨adcDecimal, fun s hd => ?_⟩
    have hresult : resultOf i.mnemonic = some State.adc := by rw [hadc]; rfl
    rw [exec_eq_touching hresult, State.adc_decimal (s := advanced i s) hd, advanced_a, advanced_c]
  · refine ⟨sbcDecimal, fun s hd => ?_⟩
    have hresult : resultOf i.mnemonic = some State.sbc := by rw [hsbc]; rfl
    rw [exec_eq_touching hresult, State.sbc_decimal (s := advanced i s) hd, advanced_a, advanced_c]

end Sys2Proof.Machine

namespace Sys2Proof
open Machine Spec

/-- Settles O14: under either reading the instruction runs the same algorithm on the same operand, of which the
conservative one keeps A and C where both operands are valid BCD and draws the rest. -/
theorem conservativeDecimalLeavesFlagsOpen : Obligations.ConservativeDecimalLeavesFlagsOpen := by
  intro i s hmn haccessible hd hconservative k valid
  obtain ⟨algorithm, hexec⟩ := exec_decimal hmn
  have hnext : exec i s = .next ((advanced i s).putAluDrawn (validBcd s.a && validBcd (operand i s))
      (algorithm s.a (operand i s) s.c)) := by
    rw [hexec s hd, State.touching_clear haccessible,
      State.putDecimal_conservative (s := advanced i s) hconservative, advanced_a]
  refine ⟨_, _, hnext, fun ⟨ha, hm⟩ u hnmos => ?_, fun hinvalid => ?_⟩
  · have hnmos' : exec i (s.withDecimal .nmos) = .next u := hnmos
    rw [hexec (s.withDecimal .nmos) hd, operand_withDecimal] at hnmos'
    obtain ⟨-, rfl⟩ := State.touching_next.mp hnmos'
    obtain ⟨hputA, hputC⟩ := State.putDecimal_valid (s := advanced i (s.withDecimal .nmos)) ha hm
      (algorithm s.a (operand i s) s.c)
    simp only [ha, hm, Bool.and_self, if_true]
    exact ⟨hputA.symm, hputC.symm⟩
  · have hdrawn : (validBcd s.a && validBcd (operand i s)) = false := by
      simpa [valid] using hinvalid
    simp [hdrawn, k]

end Sys2Proof
end
